-- ==== Sys2Proof/Word.lean ====
section
/-! DEFINITION. The machine words of the block: bytes, record fields, event words and binary64 bit patterns
(00_scope.md R10). -/

namespace Sys2Proof

/-- `u8`: a received byte, a frame byte (R10). -/
abbrev Byte := BitVec 8

/-- `u16`: a 16-bit record field, a checksum (R10). -/
abbrev U16 := BitVec 16

/-- `u32` and `f32bits`: a 32-bit record field, or a binary32 bit pattern that is never interpreted (R10, R83). -/
abbrev U32 := BitVec 32

/-- `f64`: an IEEE-754 binary64 value, held as its bit pattern (R10). -/
abbrev F64 := BitVec 64

/-- One event word of the host interface: `op` in bits 11:8, `arg` in bits 7:0 (R70). -/
abbrev EventWord := BitVec 12

end Sys2Proof
end

