-- ==== Sys2Proof/Machine/Memory.lean ====
section
/-! DEFINITION. The byte spaces of the block (20_memory.md R50 to R52): memory as a list of (address, byte) cells in
one canonical form, and a byte space as cells with a fill count. An unlisted address holds no value. -/

namespace Sys2Proof.Machine

/-- The cells of one byte space, indexed from 0 (R50). -/
abbrev Memory := List Host.Cell

/-- The canonical form: addresses strictly rising. An unlisted address reads as no value, so no cell can equal it. -/
abbrev Memory.wf (m : Memory) : Prop := (m.map Prod.fst).Pairwise (· < ·)

/-- The byte at address `a`, or none where nothing is held (R51). -/
def Memory.read (m : Memory) (a : Nat) : Option Byte :=
  match m with
  | [] => none
  | (k, b) :: rest => if k = a then some b else Memory.read rest a

/-- The `n` bytes from address `i` on, or none if one of them is not held. -/
def Memory.readN (m : Memory) (i : Nat) (n : Nat) : Option (List Byte) :=
  match n with
  | 0 => some []
  | k + 1 =>
    match Memory.read m i, Memory.readN m (i + 1) k with
    | some b, some bs => some (b :: bs)
    | _, _ => none

/-- Write one byte, keeping the addresses strictly rising. -/
def Memory.write (m : Memory) (a : Nat) (b : Byte) : Memory :=
  match m with
  | [] => [(a, b)]
  | (k, c) :: rest =>
    if a < k then (a, b) :: (k, c) :: rest
    else if a = k then (a, b) :: rest
    else (k, c) :: Memory.write rest a b

/-- A byte space: its cells and its fill count (R50, R51). -/
structure ByteSpace where
  cells : Memory
  len : Nat
  deriving DecidableEq, Repr

/-- A byte space with nothing in it. -/
def ByteSpace.empty : ByteSpace := ⟨[], 0⟩

/-- The form every byte space of the block has: exactly the indices below the fill count hold a byte (R51). -/
def ByteSpace.filled (sp : ByteSpace) : Bool := sp.cells.map Prod.fst == List.range sp.len

/-- `MemRead(S, i, n)`: defined only when `i + n ≤ len(S)` (R52). -/
def ByteSpace.read (sp : ByteSpace) (i n : Nat) : Option (List Byte) :=
  if i + n ≤ sp.len then sp.cells.readN i n else none

/-- `MemWrite(S, i, 1, b)` (00_scope.md R11). -/
def ByteSpace.write (sp : ByteSpace) (i : Nat) (b : Byte) : ByteSpace := { sp with cells := sp.cells.write i b }

/-- `Append(S, b)`: write at the fill count, which then grows by one (00_scope.md R11, R51). -/
def ByteSpace.append (sp : ByteSpace) (b : Byte) : ByteSpace :=
  { sp.write sp.len b with len := sp.len + 1 }

/-- The cells of a byte list laid out from address `a` on. -/
def cellsFrom (a : Nat) : List Byte → Memory
  | [] => []
  | b :: bs => (a, b) :: cellsFrom (a + 1) bs

/-- The byte space that holds exactly the bytes of a list, from index 0 on. -/
def ByteSpace.ofBytes (bs : List Byte) : ByteSpace := ⟨cellsFrom 0 bs, bs.length⟩

end Sys2Proof.Machine
end

