-- ==== Sys2Proof/Config.lean ====
section
/-! DEFINITION. What an implementation fixes: the types of the open parameters of 00_scope.md R8, and the two
free values of the model. The constants of R7, the default layouts and the reference instantiation P_REF stand in
Machine/Parameters.lean. -/

namespace Sys2Proof

/-- The three commands CFG, LIVE and LIVES (R22, R72). -/
inductive Cmd where
  | cfg
  | live
  | lives
  deriving DecidableEq, Repr

/-- `REC_ORDER`: the byte order of 16- and 32-bit record fields (R8, R55). -/
inductive RecOrder where
  | le
  | be
  deriving DecidableEq, Repr

/-- `CAPTURE_ORDER`: whether the marker toggle or the capture append comes first in a byte step (R8, R125). -/
inductive CaptureOrder where
  | toggleFirst
  | appendFirst
  deriving DecidableEq, Repr

/-- The record field types (R80). -/
inductive FieldType where
  | u16
  | u32
  | f32bits
  | tag8
  | tag10
  deriving DecidableEq, Repr

/-- The fields of a ConfigRecord (R84). -/
inductive ConfigField where
  | version
  | sensorType
  | mode
  | fsdCode
  | zeroOffset
  | zeroCalTemp
  | spanCalTemp
  | dacZero
  | dacFsd
  | posZeroSupp
  | negZeroSupp
  | calGasValue
  | spanOffset
  | el
  | power
  | serialNumber
  | rounding
  | dacPowerup
  | baudRate
  | warmupTime
  deriving DecidableEq, Repr

/-- The fields of a LiveDataRecord (R86). -/
inductive LiveField where
  | version
  | status
  | reading
  | temperature
  | detector
  | reference
  | absorbance
  | uptime
  | detMin
  | detMax
  | refMin
  | refMax
  deriving DecidableEq, Repr

/-- One row of a record layout: a field, its offset from the record start and its type (R84, R86). -/
structure LayoutRow (F : Type) where
  field : F
  offset : Nat
  type : FieldType
  deriving DecidableEq, Repr

/-- The open parameters of one command: `CMD_BYTE[c]`, `PAYLOAD[c]` and `CK_LIT[c]` (R8). -/
structure CmdParams where
  cmdByte : Byte
  payload : List Byte
  ckLit : U16
  deriving DecidableEq, Repr

/-- A parameter set (R8). The source leaves every one of these open; a model takes them as an argument (log 1). -/
structure Params where
  /-- `EOF_BYTE` (D4). -/
  eofByte : Byte
  /-- `SDF_BYTE` (D5). -/
  sdfByte : Byte
  /-- The frame of read-config-data (D6, D7). -/
  cfgCmd : CmdParams
  /-- The frame of read-live-data (D6, D7). -/
  liveCmd : CmdParams
  /-- The frame of read-live-data-simple (D6, D7). -/
  livesCmd : CmdParams
  /-- `REC_ORDER` (D8). -/
  recOrder : RecOrder
  /-- `CONFIG_LAYOUT` (D9). -/
  configLayout : List (LayoutRow ConfigField)
  /-- `RX_CAP`, in bytes (D14). -/
  rxCap : Nat
  /-- `CAPTURE_ORDER` (D16). -/
  captureOrder : CaptureOrder
  /-- `WAIT_WINDOW` in milliseconds: informative, no rule reads it (D31, log 19). -/
  waitWindowMs : Nat
  deriving DecidableEq, Repr

/-- Free value: the sign bit (bit 51) and the 51 payload bits of the quiet NaN a binary64 operation gives. IEEE-754
leaves them open. No event reaches it (43_analog_datapath.md R174, log 12). -/
opaque Config.nanPayload : F64 → F64 → BitVec 52

/-- Free value: what `RX_LEN` shows for an `rx_len` that 32 bits do not hold, which only an `RX_CAP` of 2^32 or more
lets happen. 10_state.md R43 leaves it open (log 26). -/
opaque Config.wideRxLen : Nat → U32

end Sys2Proof
end

