-- ==== Sys2Proof/Machine/Parameters.lean ====
section
/-! DEFINITION. The constants of 00_scope.md R7, the record layouts of 30_encoding.md R84 and R86, the reference
instantiation P_REF of R8, and the functions that read a parameter set. -/

namespace Sys2Proof

/-- `DLE` (R7). -/
def dle : Byte := 0x10#8

/-- `SYNC0` (R7). -/
def sync0 : Byte := 0x0F#8

/-- `SYNC1` (R7). -/
def sync1 : Byte := 0x0C#8

/-- `SYNC_MAX` (R7). -/
def syncMax : Nat := 2

/-- `CAP_CAP` (R7). -/
def capCap : Nat := 40

/-- `LIVE_VERSION` (R7). -/
def liveVersionNumber : U16 := 4#16

/-- `REC_OFFSET` (R7). -/
def recOffset : Nat := 3

/-- `CK_MOD` (R7). -/
def ckMod : Nat := 65536

/-- `MASK7` (R7). -/
def mask7 : Byte := 0x7F#8

/-- `ANALOG_MIN_LEN` (R7). -/
def analogMinLen : Nat := 34

/-- Bytes of a field of each type (R80). -/
def FieldType.size : FieldType → Nat
  | .u16 => 2
  | .u32 => 4
  | .f32bits => 4
  | .tag8 => 8
  | .tag10 => 10

/-- The size of a packed layout in bytes: `CONFIG_SIZE`, `LIVE_SIZE` (R84, R86). -/
def layoutSize {F : Type} : List (LayoutRow F) → Nat
  | [] => 0
  | row :: rows => row.type.size + layoutSize rows

/-- The fields of a ConfigRecord in the source's order (R84, R85). -/
def configFieldOrder : List ConfigField :=
  [.version, .sensorType, .mode, .fsdCode, .zeroOffset, .zeroCalTemp, .spanCalTemp, .dacZero, .dacFsd,
   .posZeroSupp, .negZeroSupp, .calGasValue, .spanOffset, .el, .power, .serialNumber, .rounding, .dacPowerup,
   .baudRate, .warmupTime]

/-- The default `CONFIG_LAYOUT`, 78 bytes (R84). -/
def defaultConfigLayout : List (LayoutRow ConfigField) :=
  [⟨.version, 0, .u16⟩, ⟨.sensorType, 2, .tag8⟩, ⟨.mode, 10, .u16⟩, ⟨.fsdCode, 12, .u16⟩,
   ⟨.zeroOffset, 14, .f32bits⟩, ⟨.zeroCalTemp, 18, .f32bits⟩, ⟨.spanCalTemp, 22, .f32bits⟩,
   ⟨.dacZero, 26, .f32bits⟩, ⟨.dacFsd, 30, .f32bits⟩, ⟨.posZeroSupp, 34, .f32bits⟩,
   ⟨.negZeroSupp, 38, .f32bits⟩, ⟨.calGasValue, 42, .f32bits⟩, ⟨.spanOffset, 46, .f32bits⟩] ++
  [⟨.el, 50, .f32bits⟩, ⟨.power, 54, .f32bits⟩, ⟨.serialNumber, 58, .tag10⟩, ⟨.rounding, 68, .f32bits⟩,
   ⟨.dacPowerup, 72, .u16⟩, ⟨.baudRate, 74, .u16⟩, ⟨.warmupTime, 76, .u16⟩]

/-- `LIVE_LAYOUT`, 32 bytes (R86). -/
def liveLayout : List (LayoutRow LiveField) :=
  [⟨.version, 0, .u16⟩, ⟨.status, 2, .u16⟩, ⟨.reading, 4, .f32bits⟩, ⟨.temperature, 8, .f32bits⟩,
   ⟨.detector, 12, .u16⟩, ⟨.reference, 14, .u16⟩, ⟨.absorbance, 16, .f32bits⟩, ⟨.uptime, 20, .u32⟩,
   ⟨.detMin, 24, .u16⟩, ⟨.detMax, 26, .u16⟩, ⟨.refMin, 28, .u16⟩, ⟨.refMax, 30, .u16⟩]

/-- `CONFIG_SIZE` of a parameter set (R84). -/
def Params.configSize (p : Params) : Nat := layoutSize p.configLayout

/-- `LIVE_SIZE` (R86). -/
def liveSize : Nat := layoutSize liveLayout

/-- The receive index of the live-data trailer's DLE; the EOF follows it (R87). -/
def trailerOffset : Nat := recOffset + liveSize

/-- `RX_MIN_CAP` = `REC_OFFSET + CONFIG_SIZE` (R8, log 10). -/
def Params.rxMinCap (p : Params) : Nat := recOffset + p.configSize

/-- The open parameters of command `c` (R8). -/
def Params.cmd (p : Params) : Cmd → CmdParams
  | .cfg => p.cfgCmd
  | .live => p.liveCmd
  | .lives => p.livesCmd

/-- P_REF, the reference instantiation of R8: one well-formed argument, from general knowledge (93, I1). No rule
and no statement depends on it. -/
def pRef : Params where
  eofByte := 0x1F#8
  sdfByte := 0x1A#8
  cfgCmd := ⟨0x13#8, [0x00#8], 0x0052#16⟩
  liveCmd := ⟨0x13#8, [0x01#8], 0x0053#16⟩
  livesCmd := ⟨0x13#8, [0x06#8], 0x0058#16⟩
  recOrder := .le
  configLayout := defaultConfigLayout
  rxCap := 256
  captureOrder := .toggleFirst
  waitWindowMs := 1000

end Sys2Proof
end

