-- ==== Sys2Proof/Machine/Frame.lean ====
section
/-! DEFINITION. The 16-bit checksum and the frame ROM (40_frame_encoder.md R100 to R103, 30_encoding.md R76). -/

namespace Sys2Proof

/-- The exact sum of a byte list, on naturals (R100). -/
def byteSum : List Byte → Nat
  | [] => 0
  | b :: bs => b.toNat + byteSum bs

/-- `CHECKSUM16`: the byte sum modulo `CK_MOD` (R100). -/
def checksum16 (bs : List Byte) : U16 := BitVec.ofNat 16 (byteSum bs % ckMod)

/-- The bytes of a command's frame from the leading DLE through the trailing EOF (R76, R100). No byte is escaped
(R103). -/
def frameBody (p : Params) (c : Cmd) : List Byte :=
  [dle, (p.cmd c).cmdByte] ++ (p.cmd c).payload ++ [dle, p.eofByte]

/-- A 16-bit checksum on the wire: high byte, then low byte (R54). -/
def checksumBytes (ck : U16) : List Byte := [ck.extractLsb' 8 8, ck.extractLsb' 0 8]

/-- `FRAME(c)`: one frame of the ROM (R76, R101). The checksum sent is the literal `CK_LIT[c]` (R102). -/
def frame (p : Params) (c : Cmd) : List Byte := frameBody p c ++ checksumBytes (p.cmd c).ckLit

/-- R9 (a) for one command: the literal checksum is the computed one. -/
def checksumAgrees (p : Params) (c : Cmd) : Bool := (p.cmd c).ckLit == checksum16 (frameBody p c)

/-- R9 (c): every row starts where the row before it ends. A layout with padding, which D9 and U23 name among the
differences CONFIG_LAYOUT is for, is no well-formed one in this model (DEDUCED, log 25). -/
def contiguousFrom {F : Type} (offset : Nat) : List (LayoutRow F) → Bool
  | [] => true
  | row :: rows => row.offset == offset && contiguousFrom (offset + row.type.size) rows

/-- R9 (c) and R85: the fields stand in the source's order, none twice (log 9). -/
def keepsFieldOrder (layout : List (LayoutRow ConfigField)) : Bool :=
  (layout.map LayoutRow.field).isSublist configFieldOrder

end Sys2Proof
end

