-- ==== Sys2Proof/Syntax.lean ====
section
/-! DEFINITION. The seven input events of the block, one constructor per row of spec/opcode_table.json
(30_encoding.md R71, R72). They are what this hardware has for instructions (00_scope.md R2). -/

namespace Sys2Proof

/-- The events. Only RX_BYTE has an operand, and none of its 256 values is reserved (R73). -/
inductive Instr where
  /-- CMD_READ_CONFIG, R106. -/
  | cmdReadConfig
  /-- CMD_READ_LIVE, R107. -/
  | cmdReadLive
  /-- CMD_READ_LIVE_SIMPLE, R108. -/
  | cmdReadLiveSimple
  /-- RX_BYTE with the received byte, R120. -/
  | rxByte (b : Byte)
  /-- RX_ERR, R127. -/
  | rxErr
  /-- WAIT_DONE, R140. -/
  | waitDone
  /-- RESET, R220. -/
  | reset
  deriving DecidableEq, Repr

end Sys2Proof
end

