-- ==== Sys2Proof/WellFormed.lean ====
section
/-! DEFINITION. Well-formedness of a parameter set (00_scope.md R9). An `Instr` needs no check of its own: its only
operand is a byte, and all 256 values are admitted (30_encoding.md R73), so every term is well-formed. -/

namespace Sys2Proof

/-- R9: (a) the literal checksums agree with the computed ones, (b) the receive buffer holds a whole ConfigRecord
frame, (c) the ConfigRecord layout is contiguous from offset 0 in the source's order. -/
def Params.wf (p : Params) : Bool :=
  checksumAgrees p .cfg && checksumAgrees p .live && checksumAgrees p .lives &&
  decide (p.rxMinCap ≤ p.rxCap) &&
  contiguousFrom 0 p.configLayout && keepsFieldOrder p.configLayout

end Sys2Proof
end

