-- ==== Sys2Proof/Machine/State.lean ====
section
/-! DEFINITION. The state of the block (10_state.md R20 to R46), the reasons a step can stop, and the state after
reset. -/

namespace Sys2Proof.Machine

/-- The sequencer's phase (R21). -/
inductive Phase where
  | idle
  | waiting
  | done
  | fatal
  deriving DecidableEq, Repr

/-- The result codes `res_code` can hold, and the reserved ChecksumMismatch, which no event writes (R190, R204). -/
inductive ResCode where
  | none
  | configRecord
  | liveRecord
  | transportReadError
  | noResponse
  | malformedFrame
  | unsupportedVersion
  | checksumMismatch
  deriving DecidableEq, Repr

/-- The result codes `an_code` can hold (R190). -/
inductive AnCode where
  | none
  | analogReading
  | noCapture
  | insufficientCaptureData
  deriving DecidableEq, Repr

/-- One decoded field, as raw bits (R80, R83, D28). -/
inductive FieldValue where
  | u16 (v : U16)
  | u32 (v : U32)
  | f32bits (v : U32)
  | tag8 (bytes : List Byte)
  | tag10 (bytes : List Byte)
  deriving DecidableEq, Repr

/-- A decoded record: one value per row of its layout, in layout order (R150). -/
abbrev Record (F : Type) := List (F × FieldValue)

/-- The analog record (R37): four naturals and four binary64 values. -/
structure Analog where
  data1 : Nat
  data4 : Nat
  data5 : Nat
  data16 : Nat
  light : F64
  tempC : F64
  humPct : F64
  lelPct : F64
  deriving DecidableEq, Repr

/-- The state of the block. -/
@[ext]
structure State where
  /-- The parameter set the block was built with (00_scope.md R8). The model's own field; no step writes it. -/
  params : Params
  /-- The event words delivered and not yet taken, oldest first (R64). The model's own field. -/
  inputs : List EventWord
  /-- `phase` (R21). -/
  phase : Phase
  /-- `cmd_latched`, `none` for NONE (R22). -/
  cmdLatched : Option Cmd
  /-- `prev` (R23). -/
  prev : Byte
  /-- `capturing` (R24). -/
  capturing : Bool
  /-- `sync_count` (R25). -/
  syncCount : BitVec 2
  /-- `response_observed` (R26). -/
  responseObserved : Bool
  /-- `RXB` with `rx_len` (R27). -/
  rxb : ByteSpace
  /-- `rx_overflow` (R28). -/
  rxOverflow : Bool
  /-- `CAP` with `cap_len` (R29). -/
  cap : ByteSpace
  /-- `cap_overflow` (R30). -/
  capOverflow : Bool
  /-- `RXS` with `rxs_len` (R31). -/
  rxs : ByteSpace
  /-- `CAPS` with `caps_len` (R31). -/
  caps : ByteSpace
  /-- `sync_count_s` (R31). -/
  syncCountS : BitVec 2
  /-- `cap_overflow_s` (R31). -/
  capOverflowS : Bool
  /-- `res_code` (R32). -/
  resCode : ResCode
  /-- `cfg`, `none` for ⊥ (R33). -/
  cfg : Option (Record ConfigField)
  /-- `live`, `none` for ⊥ (R34). -/
  live : Option (Record LiveField)
  /-- `trailer_mismatch` (R35). -/
  trailerMismatch : Bool
  /-- `an_code` (R36). -/
  anCode : AnCode
  /-- `analog`, `none` for ⊥ (R37). -/
  analog : Option Analog
  /-- `tx_log`, oldest frame first (R38). -/
  txLog : List (List Byte)
  /-- `refused`, the spec's model-only mark (R39). -/
  refused : Bool
  deriving DecidableEq, Repr

/-- Why the machine stops with a fault. -/
inductive Fault where
  /-- A rule was about to read a byte at or above a fill count. Raised by the record unpacker and the analog path.
  20_memory.md R52 asks for this fault and says that it marks a bug of the rules; no state that meets the invariant
  reaches it. Safe. -/
  | unfilledRead
  /-- A WAIT_DONE in WAITING with no command latched, which no CMD event leaves behind. Raised by the record unpacker;
  no state that meets the invariant reaches it (log 8). Safe. -/
  | noCommandLatched
  deriving DecidableEq, Repr

/-- Why the machine has no step. -/
inductive Refusal where
  /-- Raised by exec for an event that has no meaning yet. Safe. -/
  | notModelled (mnemonic : String)
  /-- Raised by the step on an ill-formed parameter set, which has no steps (00_scope.md R9). Safe. -/
  | illFormedParams
  /-- Raised by the step when the environment has delivered no event: the block waits (log 3). Safe. -/
  | noEvent
  deriving DecidableEq, Repr

/-- The reset state of R46 of a block built with the parameters `p`, with no event delivered and the mark `refused`
at 0. -/
def State.powerOn (p : Params) : State where
  params := p
  inputs := []
  phase := .idle
  cmdLatched := none
  prev := 0x00#8
  capturing := false
  syncCount := 0#2
  responseObserved := false
  rxb := .empty
  rxOverflow := false
  cap := .empty
  capOverflow := false
  rxs := .empty
  caps := .empty
  syncCountS := 0#2
  capOverflowS := false
  resCode := .none
  cfg := none
  live := none
  trailerMismatch := false
  anCode := .none
  analog := none
  txLog := []
  refused := false

/-- The machine right after reset (R46, R221), with the reference parameters of R8 (log 1). -/
def State.reset : State := State.powerOn pRef

end Sys2Proof.Machine
end

