-- ==== Sys2Proof/Machine/Ops.lean ====
section
/-! DEFINITION. The named operations the events share (00_scope.md R11): refusal, byte-space reads, the transmit port,
the snapshot, the result registers, taking an error, and reset. -/

namespace Sys2Proof.Machine

/-- The outcome of one event. -/
abbrev StepOutcome := Host.Outcome State Fault Refusal

/-- The next state of an outcome, where there is one. -/
def nextState? : StepOutcome → Option State
  | .next t => some t
  | .fault _ => none
  | .refused _ => none

/-- Set the mark `refused` (R39). -/
def State.markRefused (s : State) : State := { s with refused := true }

/-- `refuse`: a refused event is a next state in which only the mark changes (R11, R198, log 5). -/
def refuse (s : State) : StepOutcome := .next s.markRefused

/-- `MemRead` of `n` bytes; reading an unfilled byte is a fault, not a value (R52). -/
def memRead (sp : ByteSpace) (i n : Nat) : Except Fault (List Byte) :=
  match sp.read i n with
  | some bs => .ok bs
  | none => .error .unfilledRead

/-- `MemRead` of one byte (R58). -/
def readByte (sp : ByteSpace) (i : Nat) : Except Fault Byte :=
  match memRead sp i 1 with
  | .ok (b :: _) => .ok b
  | .ok [] => .error .unfilledRead
  | .error f => .error f

/-- `Emit(L)`: one whole-frame write on the transmit port (R104). The write always succeeds (log 20). -/
def State.emit (s : State) (bs : List Byte) : State := { s with txLog := s.txLog ++ [bs] }

/-- The snapshot of WAIT_DONE (R56). -/
def State.snapshot (s : State) : State :=
  { s with
    rxs := s.rxb
    caps := s.cap
    syncCountS := s.syncCount
    capOverflowS := s.capOverflow }

/-- The first line of DECODE: no record, no trailer mismatch (R141). -/
def State.clearRecords (s : State) : State :=
  { s with cfg := none, live := none, trailerMismatch := false }

/-- The errors the block raises (R191). ChecksumMismatch is not among them: nothing raises it (R204). -/
inductive ErrorKind where
  | transportReadError
  | noResponse
  | malformedFrame
  | unsupportedVersion
  | insufficientCaptureData
  deriving DecidableEq, Repr

/-- Taking an error: the result-register writes of R191 and, for the fatal TransportReadError, the phase FATAL and the
clearing of every result (R127, R193). Nothing is saved and there is nowhere to go (R195). -/
def State.takeError (s : State) : ErrorKind → State
  | .transportReadError =>
    { s with
      resCode := .transportReadError
      cfg := none
      live := none
      analog := none
      anCode := .none
      trailerMismatch := false
      phase := .fatal }
  | .noResponse => { s with resCode := .noResponse, cfg := none, live := none }
  | .malformedFrame => { s with resCode := .malformedFrame, cfg := none, live := none }
  | .unsupportedVersion => { s with resCode := .unsupportedVersion, live := none }
  | .insufficientCaptureData => { s with anCode := .insufficientCaptureData, analog := none }

/-- The way out of DONE and FATAL (R196): every state element takes its reset value of R46, and the mark `refused`
stays (R39, R220). The parameters and the events still to come are no state of the block (log 2). -/
def State.resetAll (s : State) : State :=
  { State.powerOn s.params with inputs := s.inputs, refused := s.refused }

end Sys2Proof.Machine
end

