-- ==== Sys2Proof/Machine/FrameEncoder.lean ====
section
/-! DEFINITION. The command events (40_frame_encoder.md R105 to R108). -/

namespace Sys2Proof.Machine

/-- `CMD(sel)` for the command `c` (R105): in IDLE, latch the command, emit its frame and go to WAITING; in every
other phase, refuse. -/
def runCommand (c : Cmd) (s : State) : StepOutcome :=
  if s.phase = .idle then
    .next { s.emit (frame s.params c) with cmdLatched := some c, phase := .waiting }
  else refuse s

/-- CMD_READ_CONFIG (R106). -/
def execCmdReadConfig (s : State) : StepOutcome := runCommand .cfg s

/-- CMD_READ_LIVE (R107). -/
def execCmdReadLive (s : State) : StepOutcome := runCommand .live s

/-- CMD_READ_LIVE_SIMPLE (R108). -/
def execCmdReadLiveSimple (s : State) : StepOutcome := runCommand .lives s

end Sys2Proof.Machine
end

