-- ==== Sys2Proof/Machine/Float64.lean ====
section
/-! DEFINITION. IEEE-754 binary64 arithmetic, rounded to nearest with ties to even (00_scope.md R11, log 11). Every
finite binary64 magnitude is a whole number of units of 2^-1074, so the operations are exact on naturals and
`roundUnits` rounds once. -/

namespace Sys2Proof.Machine

/-- Two to the power `n`. -/
def pow2 (n : Nat) : Nat := Nat.pow 2 n

/-- The number of units in 1. -/
def unitsPerOne : Nat := pow2 1074

/-- The bit pattern of +infinity. -/
def infinityBits : Nat := 0x7FF0000000000000

/-- What a bit pattern stands for: a finite magnitude is counted in units of 2^-1074. -/
inductive Datum where
  | nan
  | infinity (neg : Bool)
  | finite (neg : Bool) (units : Nat)
  deriving DecidableEq, Repr

/-- The sign bit. -/
def signBit (x : F64) : Bool := decide (pow2 63 ≤ x.toNat)

/-- The biased exponent, bits 62:52. -/
def exponentBits (x : F64) : Nat := x.toNat / pow2 52 % pow2 11

/-- The fraction, bits 51:0. -/
def fractionBits (x : F64) : Nat := x.toNat % pow2 52

/-- The datum of a bit pattern. -/
def datum (x : F64) : Datum :=
  if exponentBits x = 2047 then
    if fractionBits x = 0 then .infinity (signBit x) else .nan
  else if exponentBits x = 0 then .finite (signBit x) (fractionBits x)
  else .finite (signBit x) ((pow2 52 + fractionBits x) * pow2 (exponentBits x - 1))

/-- A quotient rounded to the nearest natural, ties to even. -/
def roundQuotient (num den : Nat) : Nat :=
  if den < 2 * (num % den) then num / den + 1
  else if 2 * (num % den) = den ∧ num / den % 2 = 1 then num / den + 1
  else num / den

/-- The exponent step of the binade that holds `num / den` units: 0 for subnormals and the lowest normal binade. -/
def binade (num den : Nat) : Nat := Nat.log2 (num / den) - 52

/-- The magnitude bits of `num / den` units, rounded to nearest even; too large a magnitude is infinity. A carry out
of the significand moves into the exponent field by itself. -/
def roundUnits (num den : Nat) : Nat :=
  min (binade num den * pow2 52 + roundQuotient num (den * pow2 (binade num den))) infinityBits

/-- A sign and magnitude bits as one pattern. -/
def signed (neg : Bool) (magnitude : Nat) : F64 :=
  BitVec.ofNat 64 (if neg then pow2 63 + magnitude else magnitude)

/-- The quiet NaN of an operation: its sign and payload are the free value of Config (log 12). -/
def quietNan (x y : F64) : F64 :=
  (Config.nanPayload x y).extractLsb' 51 1 ++ 0xFFF#12 ++ (Config.nanPayload x y).extractLsb' 0 51

/-- The sum of two finite data; an exact zero sum is +0 unless both are negative. -/
def addFinite (n1 : Bool) (u1 : Nat) (n2 : Bool) (u2 : Nat) : F64 :=
  if n1 = n2 then signed n1 (roundUnits (u1 + u2) 1)
  else if u1 = u2 then signed false 0
  else if u2 < u1 then signed n1 (roundUnits (u1 - u2) 1)
  else signed n2 (roundUnits (u2 - u1) 1)

/-- `fadd` (R11). -/
def fadd (x y : F64) : F64 :=
  match datum x, datum y with
  | .nan, _ => quietNan x y
  | _, .nan => quietNan x y
  | .infinity n1, .infinity n2 => if n1 = n2 then signed n1 infinityBits else quietNan x y
  | .infinity n1, .finite _ _ => signed n1 infinityBits
  | .finite _ _, .infinity n2 => signed n2 infinityBits
  | .finite n1 u1, .finite n2 u2 => addFinite n1 u1 n2 u2

/-- The pattern with the sign bit flipped. -/
def fneg (x : F64) : F64 := x ^^^ 0x8000000000000000#64

/-- `fsub` (R11). -/
def fsub (x y : F64) : F64 := fadd x (fneg y)

/-- `fmul` (R11). -/
def fmul (x y : F64) : F64 :=
  match datum x, datum y with
  | .nan, _ => quietNan x y
  | _, .nan => quietNan x y
  | .infinity n1, .infinity n2 => signed (n1 != n2) infinityBits
  | .infinity n1, .finite n2 u2 => if u2 = 0 then quietNan x y else signed (n1 != n2) infinityBits
  | .finite n1 u1, .infinity n2 => if u1 = 0 then quietNan x y else signed (n1 != n2) infinityBits
  | .finite n1 u1, .finite n2 u2 => signed (n1 != n2) (roundUnits (u1 * u2) unitsPerOne)

/-- `fdiv` (R11). -/
def fdiv (x y : F64) : F64 :=
  match datum x, datum y with
  | .nan, _ => quietNan x y
  | _, .nan => quietNan x y
  | .infinity _, .infinity _ => quietNan x y
  | .infinity n1, .finite n2 _ => signed (n1 != n2) infinityBits
  | .finite n1 _, .infinity n2 => signed (n1 != n2) 0
  | .finite n1 u1, .finite n2 u2 =>
    if u2 = 0 then
      if u1 = 0 then quietNan x y else signed (n1 != n2) infinityBits
    else signed (n1 != n2) (roundUnits (u1 * unitsPerOne) u2)

/-- `i2f(n)`: the binary64 value of a natural, exact below 2^53 (R11). -/
def i2f (n : Nat) : F64 := signed false (roundUnits (n * unitsPerOne) 1)

/-- `lit(s)` of the decimal literal `num / den`: the nearest binary64 value (R11). -/
def lit (num den : Nat) : F64 := signed false (roundUnits (num * unitsPerOne) den)

end Sys2Proof.Machine
end

