-- ==== Sys2Proof/Machine/Operands.lean ====
section
/-! DEFINITION. Operand assembly: record fields in either byte order (30_encoding.md R80 to R83), UNPACK and PACK
(42_record_decoder.md R150, R151), and the 7-bit capture operands (R88). -/

namespace Sys2Proof.Machine

/-- `u16of(b0, b1)`, `b0` at the lower index (R11, R81). -/
def u16of : RecOrder → Byte → Byte → U16
  | .le, b0, b1 => b1 ++ b0
  | .be, b0, b1 => b0 ++ b1

/-- `u32of(b0, b1, b2, b3)`, `b0` at the lowest index (R11, R82). -/
def u32of : RecOrder → Byte → Byte → Byte → Byte → U32
  | .le, b0, b1, b2, b3 => b3 ++ b2 ++ b1 ++ b0
  | .be, b0, b1, b2, b3 => b0 ++ b1 ++ b2 ++ b3

/-- The value of a field of a type from its bytes, lowest index first (R80). None if the bytes are not as many as the
type has. -/
def assembleField (order : RecOrder) : FieldType → List Byte → Option FieldValue
  | .u16, [b0, b1] => some (.u16 (u16of order b0 b1))
  | .u32, [b0, b1, b2, b3] => some (.u32 (u32of order b0 b1 b2 b3))
  | .f32bits, [b0, b1, b2, b3] => some (.f32bits (u32of order b0 b1 b2 b3))
  | .tag8, bs => if bs.length = 8 then some (.tag8 bs) else none
  | .tag10, bs => if bs.length = 10 then some (.tag10 bs) else none
  | _, _ => none

/-- `UNPACK(layout, B, base)`: one value per row, all of them or none (R150). -/
def unpack {F : Type} (order : RecOrder) (sp : ByteSpace) (base : Nat) :
    List (LayoutRow F) → Except Fault (Record F)
  | [] => .ok []
  | row :: rows =>
    match memRead sp (base + row.offset) row.type.size with
    | .error f => .error f
    | .ok bs =>
      match assembleField order row.type bs, unpack order sp base rows with
      | some v, .ok r => .ok ((row.field, v) :: r)
      | none, _ => .error .unfilledRead
      | _, .error f => .error f

/-- The two bytes of a 16-bit value in the byte order: the inverse of R81. -/
def bytesOfU16 (order : RecOrder) (v : U16) : List Byte :=
  match order with
  | .le => [v.extractLsb' 0 8, v.extractLsb' 8 8]
  | .be => [v.extractLsb' 8 8, v.extractLsb' 0 8]

/-- The four bytes of a 32-bit value in the byte order: the inverse of R82. -/
def bytesOfU32 (order : RecOrder) (v : U32) : List Byte :=
  match order with
  | .le => [v.extractLsb' 0 8, v.extractLsb' 8 8, v.extractLsb' 16 8, v.extractLsb' 24 8]
  | .be => [v.extractLsb' 24 8, v.extractLsb' 16 8, v.extractLsb' 8 8, v.extractLsb' 0 8]

/-- The bytes of one field value (R151). -/
def packField (order : RecOrder) : FieldValue → List Byte
  | .u16 v => bytesOfU16 order v
  | .u32 v => bytesOfU32 order v
  | .f32bits v => bytesOfU32 order v
  | .tag8 bs => bs
  | .tag10 bs => bs

/-- `PACK(layout, r)`: the bytes of the fields in layout order (R151). A record lists its fields in that order. -/
def pack {F : Type} (order : RecOrder) : Record F → List Byte
  | [] => []
  | (_, v) :: rest => packField order v ++ pack order rest

/-- A field value has the type its row says (R80). -/
def FieldValue.hasType : FieldValue → FieldType → Bool
  | .u16 _, .u16 => true
  | .u32 _, .u32 => true
  | .f32bits _, .f32bits => true
  | .tag8 bs, .tag8 => bs.length == 8
  | .tag10 bs, .tag10 => bs.length == 10
  | _, _ => false

/-- A record has one value of the right type for every row of its layout, in layout order (R33, R34, R150). -/
def hasShape {F : Type} [DecidableEq F] : List (LayoutRow F) → Record F → Bool
  | [], [] => true
  | row :: rows, (f, v) :: rest => decide (row.field = f) && v.hasType row.type && hasShape rows rest
  | _, _ => false

/-- A record's field, read by name (R43). -/
def fieldOf {F : Type} [DecidableEq F] (f : F) : Record F → Option FieldValue
  | [] => none
  | (g, v) :: rest => if g = f then some v else fieldOf f rest

/-- The low seven bits of a captured byte (R88, R171). -/
def low7 (b : Byte) : Nat := (b &&& mask7).toNat

/-- `pair7(h, l)` (R88). -/
def pair7 (h l : Byte) : Nat := 128 * low7 h + low7 l

/-- `sum7(a, b)` (R88). -/
def sum7 (a b : Byte) : Nat := low7 a + low7 b

end Sys2Proof.Machine
end

