-- ==== Sys2Proof/Machine/AnalogDatapath.lean ====
section
/-! DEFINITION. The analog bit-mask and scaling datapath (43_analog_datapath.md R170 to R177). -/

namespace Sys2Proof.Machine

/-- The four integer words (R171). -/
structure AnalogWords where
  data1 : Nat
  data4 : Nat
  data5 : Nat
  data16 : Nat
  deriving DecidableEq, Repr

/-- The integer words from the eight capture bytes at indices 2, 3, 8, 9, 10, 11, 32 and 33 (R171). Data16 is 128
times the sum, as the source writes it (R176). -/
def analogWordsOf (c2 c3 c8 c9 c10 c11 c32 c33 : Byte) : AnalogWords where
  data1 := pair7 c2 c3
  data4 := 4 * pair7 c8 c9
  data5 := 4 * pair7 c10 c11
  data16 := 128 * sum7 c32 c33

/-- The integer words of a capture snapshot (R62, R171). -/
def readAnalogWords (caps : ByteSpace) : Except Fault AnalogWords :=
  match readByte caps 2, readByte caps 3, readByte caps 8, readByte caps 9, readByte caps 10, readByte caps 11,
    readByte caps 32, readByte caps 33 with
  | .ok c2, .ok c3, .ok c8, .ok c9, .ok c10, .ok c11, .ok c32, .ok c33 =>
    .ok (analogWordsOf c2 c3 c8 c9 c10 c11 c32 c33)
  | _, _, _, _, _, _, _, _ => .error .unfilledRead

/-- `u = 3.0/32768.0` (R7, R172). -/
def adcUnit : F64 := fdiv (lit 3 1) (lit 32768 1)

/-- `lightIntensity = Data1 * u` (R172). -/
def lightOf (data1 : Nat) : F64 := fmul (i2f data1) adcUnit

/-- `temperatureC = (((u*Data4)/3.0*2.7/2.0 - 0.5)/0.01)` (R172). -/
def tempOf (data4 : Nat) : F64 :=
  fdiv (fsub (fdiv (fmul (fdiv (fmul adcUnit (i2f data4)) (lit 3 1)) (lit 27 10)) (lit 2 1)) (lit 5 10)) (lit 1 100)

/-- The humidity numerator `((Data5*u)*2.7/9 - 0.1515)/0.00636` (R172). -/
def humNumerator (data5 : Nat) : F64 :=
  fdiv (fsub (fdiv (fmul (fmul (i2f data5) adcUnit) (lit 27 10)) (i2f 9)) (lit 1515 10000)) (lit 636 100000)

/-- The humidity divisor `1.0546 - 0.00216*temperatureC` (R172). -/
def humDivisor (tempC : F64) : F64 := fsub (lit 10546 10000) (fmul (lit 216 100000) tempC)

/-- `humidityPct` (R172). -/
def humOf (data5 : Nat) (tempC : F64) : F64 := fdiv (humNumerator data5) (humDivisor tempC)

/-- The analog record of the integer words (R170, R172). -/
def scaleWords (w : AnalogWords) : Analog where
  data1 := w.data1
  data4 := w.data4
  data5 := w.data5
  data16 := w.data16
  light := lightOf w.data1
  tempC := tempOf w.data4
  humPct := humOf w.data5 (tempOf w.data4)
  lelPct := i2f w.data16

/-- DERIVE_ANALOG (R170): no capture, too few captured bytes, or the reading (R173). `cap_overflow_s` does not stop it
(R175), and neither the command nor the decode result matters (R177). -/
def deriveAnalog (s : State) : Except Fault State :=
  if s.syncCountS = 0#2 then .ok { s with analog := none, anCode := .noCapture }
  else if s.caps.len < analogMinLen then .ok (s.takeError .insufficientCaptureData)
  else
    match readAnalogWords s.caps with
    | .ok w => .ok { s with analog := some (scaleWords w), anCode := .analogReading }
    | .error f => .error f

end Sys2Proof.Machine
end

