-- ==== Sys2Proof/Machine/Flags.lean ====
section
/-! DEFINITION. The status flags and how each is computed (10_state.md R40): the pattern detector, the two appends
with their overflow flags, the response flag, the marker and trailer checks, and `done`. -/

namespace Sys2Proof.Machine

/-- The pattern detector's condition on the received byte (R121). -/
def State.markerSeen (s : State) (b : Byte) : Bool :=
  s.prev == sync0 && b == sync1 && decide (s.syncCount.toNat < syncMax)

/-- Step 1 of RX_BYTE: on a marker `capturing` flips and `sync_count` grows by one (R121). -/
def State.detectMarker (s : State) (b : Byte) : State :=
  if s.markerSeen b then { s with capturing := !s.capturing, syncCount := s.syncCount + 1#2 } else s

/-- Step 2 of RX_BYTE: the previous-byte register (R23). -/
def State.recordPrev (s : State) (b : Byte) : State := { s with prev := b }

/-- Step 3 of RX_BYTE: while capturing, append to CAP or, at 40 bytes, drop the byte and set `cap_overflow` (R122). -/
def State.captureByte (s : State) (b : Byte) : State :=
  if s.capturing then
    if s.cap.len < capCap then { s with cap := s.cap.append b } else { s with capOverflow := true }
  else s

/-- Step 4 of RX_BYTE: append to RXB or, at `RX_CAP` bytes, drop the byte and set `rx_overflow` (R123). -/
def State.receiveByte (s : State) (b : Byte) : State :=
  if s.rxb.len < s.params.rxCap then { s with rxb := s.rxb.append b } else { s with rxOverflow := true }

/-- Step 5 of RX_BYTE: `response_observed` (R124). -/
def State.observeResponse (s : State) : State := { s with responseObserved := true }

/-- The marker check of R143: at least two bytes, DLE then SDF_BYTE. -/
def markersPresent (p : Params) (rxs : ByteSpace) : Except Fault Bool :=
  if rxs.len < 2 then .ok false
  else
    match memRead rxs 0 2 with
    | .ok bs => .ok (bs == [dle, p.sdfByte])
    | .error f => .error f

/-- The trailer check of R147: DLE and EOF_BYTE right after the live record. -/
def trailerMismatches (p : Params) (rxs : ByteSpace) : Except Fault Bool :=
  if rxs.len < trailerOffset + 2 then .ok true
  else
    match memRead rxs trailerOffset 2 with
    | .ok bs => .ok (bs != [dle, p.eofByte])
    | .error f => .error f

/-- `done`: 1 exactly in DONE and FATAL (R40). -/
def State.doneFlag (s : State) : Bool :=
  match s.phase with
  | .idle => false
  | .waiting => false
  | .done => true
  | .fatal => true

end Sys2Proof.Machine
end

