-- ==== Sys2Proof/Machine/RecordDecoder.lean ====
section
/-! DEFINITION. The end-of-wait event and the record unpacker (42_record_decoder.md R140 to R153). -/

namespace Sys2Proof.Machine

/-- The version field of a live-data record (R148). -/
def liveVersion (p : Params) (rxs : ByteSpace) : Except Fault U16 :=
  match memRead rxs recOffset 2 with
  | .ok (b0 :: b1 :: _) => .ok (u16of p.recOrder b0 b1)
  | .ok _ => .error .unfilledRead
  | .error f => .error f

/-- The CFG path: the length check of R144, then the record (R145). Its version is not checked (R153). -/
def decodeConfig (s : State) : Except Fault State :=
  if s.rxs.len < recOffset + s.params.configSize then .ok (s.takeError .malformedFrame)
  else
    match unpack s.params.recOrder s.rxs recOffset s.params.configLayout with
    | .ok r => .ok { s with cfg := some r, resCode := .configRecord }
    | .error f => .error f

/-- The end of the live path: the record, and for read-live-data the trailer flag (R146, R147, R149). -/
def unpackLive (checkTrailer : Bool) (s : State) : Except Fault State :=
  match unpack s.params.recOrder s.rxs recOffset liveLayout with
  | .error f => .error f
  | .ok r =>
    if checkTrailer then
      match trailerMismatches s.params s.rxs with
      | .ok m => .ok { s with live := some r, resCode := .liveRecord, trailerMismatch := m }
      | .error f => .error f
    else .ok { s with live := some r, resCode := .liveRecord }

/-- The live path: five bytes, then the version, then the length, then the record (R141, R144, R148, R194). -/
def decodeLive (checkTrailer : Bool) (s : State) : Except Fault State :=
  if s.rxs.len < recOffset + 2 then .ok (s.takeError .malformedFrame)
  else
    match liveVersion s.params s.rxs with
    | .error f => .error f
    | .ok v =>
      if v ≠ liveVersionNumber then .ok (s.takeError .unsupportedVersion)
      else if s.rxs.len < recOffset + liveSize then .ok (s.takeError .malformedFrame)
      else unpackLive checkTrailer s

/-- The path of the latched command. NONE cannot be latched in WAITING (log 8). -/
def decodePath (c : Option Cmd) (s : State) : Except Fault State :=
  match c with
  | some .cfg => decodeConfig s
  | some .live => decodeLive true s
  | some .lives => decodeLive false s
  | none => .error .noCommandLatched

/-- `DECODE(cmd_latched)` (R141), in the order of R194. The received checksum is never read (R152). -/
def decodeRecord (s : State) : Except Fault State :=
  if s.responseObserved = false then .ok (s.clearRecords.takeError .noResponse)
  else
    match markersPresent s.params s.rxs with
    | .error f => .error f
    | .ok false => .ok (s.clearRecords.takeError .malformedFrame)
    | .ok true => decodePath s.cmdLatched s.clearRecords

/-- The three parts of an admitted WAIT_DONE in order: snapshot, DECODE, DERIVE_ANALOG; then phase DONE (R140). -/
def finishWait (s : State) : Except Fault State :=
  match decodeRecord s.snapshot with
  | .error f => .error f
  | .ok t =>
    match deriveAnalog t with
    | .error f => .error f
    | .ok u => .ok { u with phase := .done }

/-- WAIT_DONE (R140): admitted in WAITING alone. -/
def execWaitDone (s : State) : StepOutcome :=
  if s.phase = .waiting then
    match finishWait s with
    | .ok t => .next t
    | .error f => .fault f
  else refuse s

end Sys2Proof.Machine
end

