-- ==== Sys2Proof/Machine/Reset.lean ====
section
/-! DEFINITION. The RESET event (70_reset_and_hazards.md R220). -/

namespace Sys2Proof.Machine

/-- RESET (R220): admitted in every phase. -/
def execReset (s : State) : StepOutcome := .next s.resetAll

end Sys2Proof.Machine
end

