-- ==== Sys2Proof/Machine/StreamReceiver.lean ====
section
/-! DEFINITION. The receiver's events (41_stream_receiver.md R120 to R127). -/

namespace Sys2Proof.Machine

/-- The five steps of an admitted RX_BYTE. Under APPEND_FIRST the capture append runs before the detector and so sees
`capturing` as it was (R120, R125). -/
def receive (b : Byte) (s : State) : State :=
  match s.params.captureOrder with
  | .toggleFirst => ((((s.detectMarker b).recordPrev b).captureByte b).receiveByte b).observeResponse
  | .appendFirst => ((((s.captureByte b).detectMarker b).recordPrev b).receiveByte b).observeResponse

/-- RX_BYTE (R120). -/
def execRxByte (b : Byte) (s : State) : StepOutcome :=
  if s.phase = .fatal then refuse s else .next (receive b s)

/-- RX_ERR (R127). -/
def execRxErr (s : State) : StepOutcome :=
  if s.phase = .fatal then refuse s else .next (s.takeError .transportReadError)

end Sys2Proof.Machine
end

