-- ==== Sys2Proof/Machine/Dispatch.lean ====
section
/-! DEFINITION. One arm per event of spec/opcode_table.json. -/

namespace Sys2Proof.Machine

def exec (i : Instr) (s : State) : Host.Outcome State Fault Refusal :=
  match i with
  | .cmdReadConfig => Sys2Proof.Machine.execCmdReadConfig s
  | .cmdReadLive => Sys2Proof.Machine.execCmdReadLive s
  | .cmdReadLiveSimple => Sys2Proof.Machine.execCmdReadLiveSimple s
  | .rxByte b => Sys2Proof.Machine.execRxByte b s
  | .rxErr => Sys2Proof.Machine.execRxErr s
  | .waitDone => Sys2Proof.Machine.execWaitDone s
  | .reset => Sys2Proof.Machine.execReset s

end Sys2Proof.Machine
end

