-- ==== Sys2Proof/Decode.lean ====
section
/-! DEFINITION. The event-word decoder and encoder (30_encoding.md R70 to R75) and the mask-and-match rows of
spec/opcode_table.json. -/

namespace Sys2Proof

/-- Why a word is reserved (R74). -/
inductive Reserved where
  /-- `op` is 0x4 to 0xE. -/
  | op
  /-- A CMD with `arg[7:2] ≠ 0`. -/
  | cmdArg
  /-- A CMD with `sel = 3`. -/
  | cmdSel
  /-- An RX_ERR with `arg ≠ 0`. -/
  | rxErrArg
  /-- A WAIT_DONE with `arg ≠ 0`. -/
  | waitDoneArg
  /-- A RESET with `arg ≠ 0`. -/
  | resetArg
  deriving DecidableEq, Repr

/-- What an event word is: one of the seven events, or reserved (R75). -/
inductive Decoded where
  | event (i : Instr)
  | reserved (why : Reserved)
  deriving DecidableEq, Repr

/-- The event class, bits 11:8 (R70). -/
def wordOp (w : EventWord) : BitVec 4 := w.extractLsb' 8 4

/-- The operand, bits 7:0 (R70). -/
def wordArg (w : EventWord) : Byte := w.extractLsb' 0 8

/-- The CMD class: `arg[7:2]` is zero and `arg[1:0]` selects the command (R71, R72). -/
def decodeCmd (arg : Byte) : Decoded :=
  if arg.extractLsb' 2 6 ≠ 0#6 then .reserved .cmdArg
  else if arg.extractLsb' 0 2 = 0#2 then .event .cmdReadConfig
  else if arg.extractLsb' 0 2 = 1#2 then .event .cmdReadLive
  else if arg.extractLsb' 0 2 = 2#2 then .event .cmdReadLiveSimple
  else .reserved .cmdSel

/-- A class whose operand is zero: the event, or reserved by name (R71, R74). -/
def decodeNoArg (arg : Byte) (i : Instr) (why : Reserved) : Decoded :=
  if arg = 0#8 then .event i else .reserved why

/-- The event-word decoder, total on the 4096 words (R71, R75). -/
def decode (w : EventWord) : Decoded :=
  if wordOp w = 0x0#4 then decodeCmd (wordArg w)
  else if wordOp w = 0x1#4 then .event (.rxByte (wordArg w))
  else if wordOp w = 0x2#4 then decodeNoArg (wordArg w) .rxErr .rxErrArg
  else if wordOp w = 0x3#4 then decodeNoArg (wordArg w) .waitDone .waitDoneArg
  else if wordOp w = 0xF#4 then decodeNoArg (wordArg w) .reset .resetArg
  else .reserved .op

/-- An event word from its two fields, op in the high bits (R70). -/
def mkWord (op : BitVec 4) (arg : Byte) : EventWord := op ++ arg

/-- The event word of an event (R71, R72). -/
def encode : Instr → EventWord
  | .cmdReadConfig => mkWord 0x0#4 0x00#8
  | .cmdReadLive => mkWord 0x0#4 0x01#8
  | .cmdReadLiveSimple => mkWord 0x0#4 0x02#8
  | .rxByte b => mkWord 0x1#4 b
  | .rxErr => mkWord 0x2#4 0x00#8
  | .waitDone => mkWord 0x3#4 0x00#8
  | .reset => mkWord 0xF#4 0x00#8

/-- One row of the opcode table: a word matches it when `(word & mask) = pattern` (R75). -/
structure TableRow where
  pattern : EventWord
  mask : EventWord
  deriving DecidableEq, Repr

/-- The rows of spec/opcode_table.json, in its order. -/
def opcodeTable : List TableRow :=
  [⟨0x000#12, 0xFFF#12⟩, ⟨0x001#12, 0xFFF#12⟩, ⟨0x002#12, 0xFFF#12⟩, ⟨0x100#12, 0xF00#12⟩,
   ⟨0x200#12, 0xFFF#12⟩, ⟨0x300#12, 0xFFF#12⟩, ⟨0xF00#12, 0xFFF#12⟩]

/-- `(word & mask) = match` (R75). -/
def TableRow.matchesWord (r : TableRow) (w : EventWord) : Bool := (w &&& r.mask) == r.pattern

/-- An event's row of the opcode table. -/
def rowOf : Instr → TableRow
  | .cmdReadConfig => ⟨0x000#12, 0xFFF#12⟩
  | .cmdReadLive => ⟨0x001#12, 0xFFF#12⟩
  | .cmdReadLiveSimple => ⟨0x002#12, 0xFFF#12⟩
  | .rxByte _ => ⟨0x100#12, 0xF00#12⟩
  | .rxErr => ⟨0x200#12, 0xFFF#12⟩
  | .waitDone => ⟨0x300#12, 0xFFF#12⟩
  | .reset => ⟨0xF00#12, 0xFFF#12⟩

/-- The event word a number of `nbits` bits stands for: a number with a bit above bit 11 is no event word, since
every event word is 12 bits long (R70, log 17). -/
def tableEventWord (nbits w : Nat) : Option EventWord :=
  if w % 2 ^ nbits < 4096 then some (BitVec.ofNat 12 (w % 2 ^ nbits)) else none

/-- The event the decoder reads from a word numbered as spec/opcode_table.json numbers it. -/
def decodeTableWord (nbits w : Nat) : Option Instr :=
  match tableEventWord nbits w with
  | none => none
  | some word =>
    match decode word with
    | .event i => some i
    | .reserved _ => none

end Sys2Proof
end

