-- ==== Sys2Proof/Machine/Fetch.lean ====
section
/-! DEFINITION. Taking the next event: the environment delivers event words at the end of the queue `inputs`, and the
block takes the oldest one (20_memory.md R64, log 2). -/

namespace Sys2Proof.Machine

/-- The environment delivers more event words (R64, R200). -/
def State.deliver (s : State) (ws : List EventWord) : State := { s with inputs := s.inputs ++ ws }

/-- What the block finds at its host interface. -/
inductive Fetched where
  /-- There is no step: the parameters are ill-formed (R9) or no event has been delivered. -/
  | stopped (why : Refusal)
  /-- The oldest word is reserved (R74); the state has it taken. -/
  | reserved (why : Reserved) (s : State)
  /-- The oldest word is an event; the state has it taken. -/
  | event (i : Instr) (s : State)
  deriving DecidableEq, Repr

/-- Take and decode the oldest delivered word. -/
def fetch (s : State) : Fetched :=
  if s.params.wf then
    match s.inputs with
    | [] => .stopped .noEvent
    | w :: ws =>
      match decode w with
      | .event i => .event i { s with inputs := ws }
      | .reserved why => .reserved why { s with inputs := ws }
  else .stopped .illFormedParams

/-- Put an event word where the next step takes it. -/
def State.putFirst (s : State) (w : EventWord) : State := { s with inputs := w :: s.inputs }

/-- Put the event word of a number of `nbits` bits where the next step takes it. A number that is no event word
cannot be presented at the interface, and nothing changes (log 17). -/
def State.putTableWord (s : State) (nbits w : Nat) : State :=
  match tableEventWord nbits w with
  | some word => s.putFirst word
  | none => s

end Sys2Proof.Machine
end

