-- ==== Sys2Proof/Machine/Step.lean ====
section
/-! DEFINITION. One step: one event (00_scope.md R2, R12). -/

namespace Sys2Proof.Machine

/-- One step takes the oldest event and runs it; a reserved word is refused in every state (R74). -/
def step (s : State) : Host.Outcome State Fault Refusal :=
  match fetch s with
  | .stopped why => .refused why
  | .reserved _ t => refuse t
  | .event i t => exec i t

/-- The state with an event word where the next step takes it (log 2). -/
def State.withFetchWord (s : State) (nbits w : Nat) : State := s.putTableWord nbits w

end Sys2Proof.Machine
end

