-- ==== Sys2Proof/Machine/TextForm.lean ====
section
/-! DEFINITION. The textual form of events and the pseudo-events (30_encoding.md R89, R90): lines of characters, what
each line stands for, and the event words it expands to. -/

namespace Sys2Proof.Machine

/-- One line of a test program: an event, or a pseudo-event of R90. -/
inductive Line where
  /-- One event of R89. -/
  | one (i : Instr)
  /-- `rx b0, b1, ..., bk`. -/
  | rxList (bs : List Byte)
  /-- `sync`. -/
  | sync
  /-- `rxframe FRAME(c)`. -/
  | rxFrame (c : Cmd)
  /-- An empty line or a comment. -/
  | blank
  deriving DecidableEq, Repr

/-- The events a line stands for, in order (R90). -/
def Line.expand (p : Params) : Line → List Instr
  | .one i => [i]
  | .rxList bs => bs.map .rxByte
  | .sync => [.rxByte sync0, .rxByte sync1]
  | .rxFrame c => (frame p c).map .rxByte
  | .blank => []

/-- The event words of a program's lines, in order. -/
def assemble (p : Params) (ls : List Line) : List EventWord := (ls.flatMap (Line.expand p)).map encode

/-- `cmd`. -/
def kwCmd : List Char := ['c', 'm', 'd']

/-- `rx`. -/
def kwRx : List Char := ['r', 'x']

/-- `rxerr`. -/
def kwRxErr : List Char := ['r', 'x', 'e', 'r', 'r']

/-- `wait`. -/
def kwWait : List Char := ['w', 'a', 'i', 't']

/-- `reset`. -/
def kwReset : List Char := ['r', 'e', 's', 'e', 't']

/-- `sync`. -/
def kwSync : List Char := ['s', 'y', 'n', 'c']

/-- `rxframe`. -/
def kwRxFrame : List Char := ['r', 'x', 'f', 'r', 'a', 'm', 'e']

/-- `FRAME`. -/
def kwFrame : List Char := ['F', 'R', 'A', 'M', 'E']

/-- `read-config-data`. -/
def kwReadConfig : List Char := ['r', 'e', 'a', 'd', '-', 'c', 'o', 'n', 'f', 'i', 'g', '-', 'd', 'a', 't', 'a']

/-- `read-live-data`. -/
def kwReadLive : List Char := ['r', 'e', 'a', 'd', '-', 'l', 'i', 'v', 'e', '-', 'd', 'a', 't', 'a']

/-- `read-live-data-simple`. -/
def kwReadLiveSimple : List Char := kwReadLive ++ ['-', 's', 'i', 'm', 'p', 'l', 'e']

/-- The parameter name of a command, as FRAME(c) writes it (R76). -/
def cmdLetters : Cmd → List Char
  | .cfg => ['C', 'F', 'G']
  | .live => ['L', 'I', 'V', 'E']
  | .lives => ['L', 'I', 'V', 'E', 'S']

/-- A hexadecimal digit. -/
def hexDigit (n : BitVec 4) : Char :=
  if n.toNat < 10 then Char.ofNat (48 + n.toNat) else Char.ofNat (55 + n.toNat)

/-- A byte as `0xHH`. -/
def byteText (b : Byte) : List Char :=
  ['0', 'x', hexDigit (b.extractLsb' 4 4), hexDigit (b.extractLsb' 0 4)]

/-- The line of one event (R89). -/
def eventText : Instr → List Char
  | .cmdReadConfig => kwCmd ++ ' ' :: kwReadConfig
  | .cmdReadLive => kwCmd ++ ' ' :: kwReadLive
  | .cmdReadLiveSimple => kwCmd ++ ' ' :: kwReadLiveSimple
  | .rxByte b => kwRx ++ ' ' :: byteText b
  | .rxErr => kwRxErr
  | .waitDone => kwWait
  | .reset => kwReset

/-- The value of a hexadecimal digit, in either case (log 18). -/
def digitValue (c : Char) : Option (BitVec 4) :=
  if 48 ≤ c.toNat ∧ c.toNat ≤ 57 then some (BitVec.ofNat 4 (c.toNat - 48))
  else if 65 ≤ c.toNat ∧ c.toNat ≤ 70 then some (BitVec.ofNat 4 (c.toNat - 55))
  else if 97 ≤ c.toNat ∧ c.toNat ≤ 102 then some (BitVec.ofNat 4 (c.toNat - 87))
  else none

/-- A byte written `0xHH` (R89). -/
def parseByte : List Char → Option Byte
  | ['0', 'x', h, l] =>
    match digitValue h, digitValue l with
    | some hi, some lo => some (hi ++ lo)
    | _, _ => none
  | _ => none

/-- All the bytes of a list of words, or none. -/
def parseBytes : List (List Char) → Option (List Byte)
  | [] => some []
  | w :: ws =>
    match parseByte w, parseBytes ws with
    | some b, some bs => some (b :: bs)
    | _, _ => none

/-- The words of a line: `;` starts a comment (R89), blanks, tabs, commas and parentheses separate (log 18). -/
def wordsOf : List Char → List Char → List (List Char)
  | [], word => if word = [] then [] else [word.reverse]
  | c :: rest, word =>
    if c = ';' then (if word = [] then [] else [word.reverse])
    else if c = ' ' ∨ c = '\t' ∨ c = ',' ∨ c = '(' ∨ c = ')' then
      (if word = [] then wordsOf rest [] else word.reverse :: wordsOf rest [])
    else wordsOf rest (c :: word)

/-- A command identifier (R72, R89). -/
def parseCommand (w : List Char) : Option Line :=
  if w = kwReadConfig then some (.one .cmdReadConfig)
  else if w = kwReadLive then some (.one .cmdReadLive)
  else if w = kwReadLiveSimple then some (.one .cmdReadLiveSimple)
  else none

/-- The operands of `rx`: one byte, or the list form of R90. -/
def parseRx (ws : List (List Char)) : Option Line :=
  match parseBytes ws with
  | some [b] => some (.one (.rxByte b))
  | some (b :: c :: bs) => some (.rxList (b :: c :: bs))
  | some [] => none
  | none => none

/-- The operand of `rxframe`. -/
def parseFrame (ws : List (List Char)) : Option Line :=
  if ws = [kwFrame, cmdLetters .cfg] then some (.rxFrame .cfg)
  else if ws = [kwFrame, cmdLetters .live] then some (.rxFrame .live)
  else if ws = [kwFrame, cmdLetters .lives] then some (.rxFrame .lives)
  else none

/-- The words of a line as a line of a program, or none where the line is not of R89 or R90. -/
def parseWords : List (List Char) → Option Line
  | [] => some .blank
  | w :: ws =>
    if w = kwRx then parseRx ws
    else if w = kwRxFrame then parseFrame ws
    else if w = kwCmd then (match ws with | [name] => parseCommand name | _ => none)
    else if ws ≠ [] then none
    else if w = kwRxErr then some (.one .rxErr)
    else if w = kwWait then some (.one .waitDone)
    else if w = kwReset then some (.one .reset)
    else if w = kwSync then some .sync
    else none

/-- One line of text (R89, R90). -/
def parseLine (text : List Char) : Option Line := parseWords (wordsOf text [])

end Sys2Proof.Machine
end

