-- ==== Sys2Proof/Machine/Views.lean ====
section
/-! DEFINITION. The read-only views of the state (10_state.md R41 to R43) and the numbers of the codes
(60_exceptions.md R190). A view is a function of the state, so reading one changes nothing (20_memory.md R60). -/

namespace Sys2Proof.Machine

/-- The phase's number (R21). -/
def Phase.code : Phase → BitVec 2
  | .idle => 0#2
  | .waiting => 1#2
  | .done => 2#2
  | .fatal => 3#2

/-- The latched command's number (R22). -/
def cmdCode : Option Cmd → BitVec 2
  | some .cfg => 0#2
  | some .live => 1#2
  | some .lives => 2#2
  | none => 3#2

/-- `res_code`'s number (R190). -/
def ResCode.code : ResCode → BitVec 4
  | .none => 0#4
  | .configRecord => 1#4
  | .liveRecord => 2#4
  | .transportReadError => 8#4
  | .noResponse => 9#4
  | .malformedFrame => 10#4
  | .unsupportedVersion => 11#4
  | .checksumMismatch => 13#4

/-- `an_code`'s number (R190). -/
def AnCode.code : AnCode → BitVec 4
  | .none => 0#4
  | .analogReading => 1#4
  | .noCapture => 2#4
  | .insufficientCaptureData => 12#4

/-- `STATUS`, bit 31 first: reserved bits, an_code, res_code, cmd_latched, done, trailer_mismatch, cap_overflow,
rx_overflow, response_observed, sync_count, capturing, phase (R41, R42). -/
def State.status (s : State) : BitVec 32 :=
  0#12 ++ s.anCode.code ++ s.resCode.code ++ cmdCode s.cmdLatched ++ BitVec.ofBool s.doneFlag ++
    BitVec.ofBool s.trailerMismatch ++ BitVec.ofBool s.capOverflow ++ BitVec.ofBool s.rxOverflow ++
    BitVec.ofBool s.responseObserved ++ s.syncCount ++ BitVec.ofBool s.capturing ++ s.phase.code

/-- A write to STATUS is ignored: it has no write side (R41). -/
def State.writeStatus (s : State) (_ : BitVec 32) : State := s

/-- `RX_LEN`, zero-extended to 32 bits (R43). RX_CAP is any natural, and R43 does not say what shows of an `rx_len` of
2^32 or more: a free value (DESIGN CHOICE, log 26). -/
def State.rxLenView (s : State) : BitVec 32 :=
  if s.rxb.len < 4294967296 then BitVec.ofNat 32 s.rxb.len else Config.wideRxLen s.rxb.len

/-- `CAP_LEN`, 6 bits zero-extended to 32 (R43). -/
def State.capLenView (s : State) : BitVec 32 := (BitVec.ofNat 6 s.cap.len).setWidth 32

/-- A field of the ConfigRecord; none while `cfg` is ⊥, which is a reader error and no value (R33, R43). -/
def State.readCfg (s : State) (f : ConfigField) : Option FieldValue :=
  match s.cfg with
  | some r => fieldOf f r
  | none => none

/-- A field of the LiveDataRecord; none while `live` is ⊥ (R34, R43). -/
def State.readLive (s : State) (f : LiveField) : Option FieldValue :=
  match s.live with
  | some r => fieldOf f r
  | none => none

/-- The analog record; none while it is ⊥ (R37, R43). -/
def State.readAnalog (s : State) : Option Analog := s.analog

end Sys2Proof.Machine
end

