-- ==== Sys2Proof/Safety.lean ====
section
/-! DEFINITION. The terms claims are stated in: which events a phase admits, which agent runs an event, the order of
the phases, a run inside the block's contract, and the invariant every step keeps. -/

namespace Sys2Proof.Machine

/-- The agents (00_scope.md R3, 60_exceptions.md R201). RESET is process start and belongs to the environment. -/
inductive Agent where
  | coordinator
  | receiver
  | environment
  deriving DecidableEq, Repr

/-- The agent whose event it is (R64, R201). -/
def agentOf : Instr → Agent
  | .cmdReadConfig => .coordinator
  | .cmdReadLive => .coordinator
  | .cmdReadLiveSimple => .coordinator
  | .rxByte _ => .receiver
  | .rxErr => .receiver
  | .waitDone => .coordinator
  | .reset => .environment

/-- The events the block's contract admits in each phase (60_exceptions.md R198, R199). -/
def admitted : Instr → Phase → Bool
  | .cmdReadConfig, ph => ph == .idle
  | .cmdReadLive, ph => ph == .idle
  | .cmdReadLiveSimple, ph => ph == .idle
  | .rxByte _, ph => ph != .fatal
  | .rxErr, ph => ph != .fatal
  | .waitDone, ph => ph == .waiting
  | .reset, _ => true

/-- The command event of a command (R105). -/
def commandEvent : Cmd → Instr
  | .cfg => .cmdReadConfig
  | .live => .cmdReadLive
  | .lives => .cmdReadLiveSimple

/-- A run of events, one after the other, with no word of the queue taken (20_memory.md R64). -/
def execAll : List Instr → State → StepOutcome
  | [], s => .next s
  | i :: is, s =>
    match exec i s with
    | .next t => execAll is t
    | .fault f => .fault f
    | .refused r => .refused r

/-- The exact value of a binary64 pattern in units of 2^-1074; none for a NaN or an infinity. -/
def f64Units (x : F64) : Option Int :=
  match datum x with
  | .nan => none
  | .infinity _ => none
  | .finite neg units => some (if neg then -(units : Int) else (units : Int))

/-- A safe run has sent nothing outside the block's contract (10_state.md R39). -/
def State.inContract (s : State) : Prop := s.refused = false

/-- The invariant of the block: the byte spaces are filled from index 0 and bounded, the detector, the flags and the
codes agree with one another, and the result records are there exactly when their code says so. -/
structure State.Inv (s : State) : Prop where
  /-- R9. -/
  paramsWf : s.params.wf = true
  /-- R51. -/
  rxbFilled : s.rxb.filled = true
  /-- R51. -/
  capFilled : s.cap.filled = true
  /-- R51, R56. -/
  rxsFilled : s.rxs.filled = true
  /-- R51, R56. -/
  capsFilled : s.caps.filled = true
  /-- R27. -/
  rxbBound : s.rxb.len ≤ s.params.rxCap
  /-- R29. -/
  capBound : s.cap.len ≤ capCap
  /-- R31. -/
  rxsBound : s.rxs.len ≤ s.params.rxCap
  /-- R31. -/
  capsBound : s.caps.len ≤ capCap
  /-- R25: the value 3 never occurs. -/
  syncBound : s.syncCount ≠ 3#2
  /-- R31, R25. -/
  syncSnapshotBound : s.syncCountS ≠ 3#2
  /-- R126: capturing is on exactly between the first and the second marker. -/
  capturingIff : s.capturing = true ↔ s.syncCount = 1#2
  /-- R122: nothing is captured before the first marker. -/
  captureNeedsMarker : s.syncCount = 0#2 → s.cap.len = 0
  /-- R126 (e): under TOGGLE_FIRST a marker captures its own 0x0C first. -/
  captureFirst : s.params.captureOrder = .toggleFirst → s.syncCount ≠ 0#2 → s.cap.cells.read 0 = some sync1
  /-- R28. -/
  rxOverflowFull : s.rxOverflow = true → s.rxb.len = s.params.rxCap
  /-- R30. -/
  capOverflowFull : s.capOverflow = true → s.cap.len = capCap
  /-- R142. -/
  observedIff : s.responseObserved = true ↔ s.rxb.len ≠ 0
  /-- R21, R22. -/
  idleLatch : s.phase = .idle → s.cmdLatched = none
  /-- R21, R22. -/
  busyLatch : s.phase = .waiting ∨ s.phase = .done → s.cmdLatched ≠ none
  /-- R38: one frame per latched command, and none otherwise. -/
  txLogLatched : s.txLog = (match s.cmdLatched with | none => [] | some c => [frame s.params c])
  /-- R31: no snapshot before WAIT_DONE. -/
  earlySnapshot : s.phase = .idle ∨ s.phase = .waiting →
    s.rxs = .empty ∧ s.caps = .empty ∧ s.syncCountS = 0#2 ∧ s.capOverflowS = false
  /-- R32, R36: no result before WAIT_DONE. -/
  earlyResult : s.phase = .idle ∨ s.phase = .waiting → s.resCode = .none ∧ s.anCode = .none
  /-- R192. -/
  doneResult : s.phase = .done → s.resCode ≠ .none ∧ s.anCode ≠ .none
  /-- R193. -/
  fatalIff : s.phase = .fatal ↔ s.resCode = .transportReadError
  /-- R127. -/
  fatalAnalog : s.phase = .fatal → s.anCode = .none
  /-- R204. -/
  noChecksumError : s.resCode ≠ .checksumMismatch
  /-- R33. -/
  cfgIff : s.cfg.isSome = true ↔ s.resCode = .configRecord
  /-- R33, R150. -/
  cfgShape : s.cfg.all (hasShape s.params.configLayout) = true
  /-- R34. -/
  liveIff : s.live.isSome = true ↔ s.resCode = .liveRecord
  /-- R34, R150. -/
  liveShape : s.live.all (hasShape liveLayout) = true
  /-- R37. -/
  analogIff : s.analog.isSome = true ↔ s.anCode = .analogReading
  /-- R145: a ConfigRecord answers read-config-data. -/
  configCommand : s.resCode = .configRecord → s.cmdLatched = some .cfg
  /-- R146, R149: a LiveDataRecord answers a live command. -/
  liveCommand : s.resCode = .liveRecord → s.cmdLatched = some .live ∨ s.cmdLatched = some .lives
  /-- R35. -/
  trailerOnly : s.trailerMismatch = true → s.resCode = .liveRecord ∧ s.cmdLatched = some .live

end Sys2Proof.Machine
end

