-- ==== Sys2Proof/Certificates/Slice0/Obligations.lean ====
section
/-! DEFINITION. The statements for the provers. Each docstring names the rule of spec/ it formalises. No statement
assumes P_REF: the parameters are those of the state, which is arbitrary (log 1). -/

open Sys2Proof Sys2Proof.Machine

/-! ### The host interface and the encodings -/

/-- A step takes the oldest delivered word and runs the event it decodes to (R2, R64, R70). -/
def Obligations.StepRunsTheDecodedEvent : Prop :=
  ∀ (s : State) (w : EventWord) (ws : List EventWord) (i : Instr),
    s.params.wf = true → s.inputs = w :: ws → decode w = .event i →
      step s = exec i { s with inputs := ws }

/-- R74: the reserved words, and that each is refused in every state with nothing changed but the mark. That the step
takes the word from a queue is the model's choice (DESIGN CHOICE, log 2), and so is that a refused word is a next state
(DEDUCED, log 5). -/
def Obligations.ReservedWordIsRefused : Prop :=
  ∀ (s : State) (w : EventWord) (ws : List EventWord), s.params.wf = true → s.inputs = w :: ws →
    ((4 ≤ (w.extractLsb' 8 4).toNat ∧ (w.extractLsb' 8 4).toNat ≤ 14) ∨
      (w.extractLsb' 8 4 = 0#4 ∧ (w.extractLsb' 2 6 ≠ 0#6 ∨ w.extractLsb' 0 2 = 3#2)) ∨
      ((w.extractLsb' 8 4 = 2#4 ∨ w.extractLsb' 8 4 = 3#4 ∨ w.extractLsb' 8 4 = 15#4) ∧
        w.extractLsb' 0 8 ≠ 0#8)) →
      step s = .next { s with inputs := ws, refused := true }

/-- R9: what a well-formed parameter set is, and that an ill-formed one has no step. -/
def Obligations.IllFormedParametersHaveNoStep : Prop :=
  (∀ p : Params, p.wf = true ↔
    ((∀ c, (p.cmd c).ckLit =
        checksum16 ([0x10#8, (p.cmd c).cmdByte] ++ (p.cmd c).payload ++ [0x10#8, p.eofByte])) ∧
      3 + layoutSize p.configLayout ≤ p.rxCap ∧
      contiguousFrom 0 p.configLayout = true ∧ keepsFieldOrder p.configLayout = true)) ∧
  (∀ s : State, s.params.wf = false → step s = .refused .illFormedParams)

/-- Words written out from the tables of R71 and R72, and the reserved words of the vectors V-RSV (sanity). -/
def Obligations.WrittenOutWordsDecode : Prop :=
  decode 0b000000000000#12 = .event .cmdReadConfig ∧ decode 0b000000000001#12 = .event .cmdReadLive ∧
  decode 0b000000000010#12 = .event .cmdReadLiveSimple ∧ decode 0b000110100101#12 = .event (.rxByte 0xA5#8) ∧
  decode 0b001000000000#12 = .event .rxErr ∧ decode 0b001100000000#12 = .event .waitDone ∧
  decode 0b111100000000#12 = .event .reset ∧ decode 0x003#12 = .reserved .cmdSel ∧
  decode 0x004#12 = .reserved .cmdArg ∧ decode 0x400#12 = .reserved .op ∧ decode 0xE00#12 = .reserved .op ∧
  decode 0x201#12 = .reserved .rxErrArg ∧ decode 0x301#12 = .reserved .waitDoneArg ∧
  decode 0xF01#12 = .reserved .resetArg

/-- Decoding and encoding agree on every word and every event: a word decodes to an event exactly when it is that
event's word (R71, R72, R75). -/
def Obligations.DecodeEncodeAgree : Prop :=
  ∀ (w : EventWord) (i : Instr), decode w = .event i ↔ w = encode i

/-- R75: the decoder answers with the one row of the opcode table a word matches, or with "reserved" where it matches
none, and no two rows overlap. -/
def Obligations.DecoderFollowsTheOpcodeTable : Prop :=
  (∀ (w : EventWord) (i : Instr), decode w = .event i →
    rowOf i ∈ opcodeTable ∧ w &&& (rowOf i).mask = (rowOf i).pattern) ∧
  (∀ (w : EventWord) (r : TableRow), r ∈ opcodeTable → w &&& r.mask = r.pattern →
    ∃ i, decode w = .event i ∧ rowOf i = r) ∧
  (∀ (w : EventWord) (r q : TableRow), r ∈ opcodeTable → q ∈ opcodeTable →
    w &&& r.mask = r.pattern → w &&& q.mask = q.pattern → r = q)

/-- Events delivered later do not change what a step does: it takes the oldest word and leaves the rest (R64). -/
def Obligations.LaterEventsDoNotMatter : Prop :=
  ∀ (s : State) (ws : List EventWord), s.inputs ≠ [] →
    step (s.deliver ws) =
      (match step s with
       | .next t => .next (t.deliver ws)
       | .fault f => .fault f
       | .refused r => .refused r)

/-- R89: the text of every event, read back; the pseudo-events of R90 expand in order. -/
def Obligations.EventTextReadsBack : Prop :=
  (∀ i : Instr, parseLine (eventText i) = some (.one i)) ∧
  (∀ (p : Params) (bs : List Byte), assemble p [.rxList bs] = bs.map (fun b => 0x1#4 ++ b)) ∧
  (∀ p : Params, assemble p [.sync] = [0x10F#12, 0x10C#12]) ∧
  (∀ (p : Params) (c : Cmd), assemble p [.rxFrame c] = (frame p c).map (fun b => 0x1#4 ++ b))

/-! ### The frame encoder -/

/-- R100: CHECKSUM16 is the sum of the bytes modulo 65536, which wraps only from 258 bytes on; it is taken over a
frame's bytes from the leading DLE through the EOF, and the frame ends in it, high byte first. -/
def Obligations.ChecksumIsSumModulo65536 : Prop :=
  (∀ bs : List Byte, (checksum16 bs).toNat = (bs.map BitVec.toNat).sum % 65536) ∧
  checksum16 [] = 0x0000#16 ∧
  checksum16 (List.replicate 257 0xFF#8) = 0xFFFF#16 ∧ checksum16 (List.replicate 258 0xFF#8) = 0x00FE#16 ∧
  checksum16 [0x10#8, 0x13#8, 0x01#8, 0x10#8, 0x1F#8] = 0x0053#16 ∧
  (∀ bs : List Byte, bs.length ≤ 257 → (checksum16 bs).toNat = (bs.map BitVec.toNat).sum) ∧
  (∀ (p : Params) (c : Cmd), p.wf = true →
    let body := [0x10#8, (p.cmd c).cmdByte] ++ (p.cmd c).payload ++ [0x10#8, p.eofByte]
    (frame p c).take (4 + (p.cmd c).payload.length) = body ∧
    (frame p c).drop (4 + (p.cmd c).payload.length) =
      [(checksum16 body).extractLsb' 8 8, (checksum16 body).extractLsb' 0 8])

/-- R76: the bytes of a command frame. -/
def Obligations.FrameLayout : Prop :=
  ∀ (p : Params) (c : Cmd),
    frame p c = [0x10#8, (p.cmd c).cmdByte] ++ (p.cmd c).payload ++
      [0x10#8, p.eofByte, (p.cmd c).ckLit.extractLsb' 8 8, (p.cmd c).ckLit.extractLsb' 0 8]

/-- R109: every frame starts with DLE, has its fixed size and ends in the big-endian checksum of the bytes before; a
CMD event emits one frame in IDLE and none in another phase, and after it nothing is emitted before a RESET. -/
def Obligations.FrameProperties : Prop :=
  (∀ (p : Params) (c : Cmd), p.wf = true →
    (frame p c).head? = some 0x10#8 ∧
    (frame p c).length = 6 + (p.cmd c).payload.length ∧
    (frame p c).drop (4 + (p.cmd c).payload.length) =
      [(checksum16 ((frame p c).take (4 + (p.cmd c).payload.length))).extractLsb' 8 8,
       (checksum16 ((frame p c).take (4 + (p.cmd c).payload.length))).extractLsb' 0 8]) ∧
  (∀ (s t : State) (c : Cmd), exec (commandEvent c) s = .next t →
    (s.phase = .idle → t.txLog = s.txLog ++ [frame s.params c]) ∧
    (s.phase ≠ .idle → t.txLog = s.txLog) ∧
    (∀ (is : List Instr) (u : State), (∀ i ∈ is, i ≠ .reset) → execAll is t = .next u → u.txLog = t.txLog))

/-- R105, with R106 to R108: in IDLE each CMD event latches its command, emits its frame and goes to WAITING, and
changes nothing else; in any other phase it is refused. -/
def Obligations.CommandEventsEmitTheirFrame : Prop :=
  ∀ s : State,
    (s.phase = .idle →
      exec .cmdReadConfig s = .next
        { s with cmdLatched := some .cfg, txLog := s.txLog ++ [frame s.params .cfg], phase := .waiting } ∧
      exec .cmdReadLive s = .next
        { s with cmdLatched := some .live, txLog := s.txLog ++ [frame s.params .live], phase := .waiting } ∧
      exec .cmdReadLiveSimple s = .next
        { s with cmdLatched := some .lives, txLog := s.txLog ++ [frame s.params .lives], phase := .waiting }) ∧
    (s.phase ≠ .idle →
      exec .cmdReadConfig s = .next { s with refused := true } ∧
      exec .cmdReadLive s = .next { s with refused := true } ∧
      exec .cmdReadLiveSimple s = .next { s with refused := true })

/-- R38: whatever events follow power-on, at most one frame has been emitted since the last RESET. -/
def Obligations.AtMostOneFrameAnInvocation : Prop :=
  ∀ (p : Params) (is : List Instr) (t : State), p.wf = true → execAll is (State.powerOn p) = .next t →
    t.txLog.length ≤ 1

/-! ### The stream receiver -/

/-- R120: RX_BYTE under TOGGLE_FIRST, whole; in FATAL it is refused. -/
def Obligations.RxByteToggleFirst : Prop :=
  ∀ (s : State) (b : Byte), s.params.captureOrder = .toggleFirst →
    let marker : Bool := s.prev == 0x0F#8 && b == 0x0C#8 && decide (s.syncCount.toNat < 2)
    let capturing : Bool := if marker then !s.capturing else s.capturing
    encode (.rxByte b) = 0x100#12 ||| b.setWidth 12 ∧
    (s.phase ≠ .fatal →
      exec (.rxByte b) s = .next
        { s with
          capturing := capturing
          syncCount := if marker then s.syncCount + 1#2 else s.syncCount
          prev := b
          cap := if capturing && decide (s.cap.len < 40) then s.cap.append b else s.cap
          capOverflow := s.capOverflow || (capturing && decide (40 ≤ s.cap.len))
          rxb := if s.rxb.len < s.params.rxCap then s.rxb.append b else s.rxb
          rxOverflow := s.rxOverflow || decide (s.params.rxCap ≤ s.rxb.len)
          responseObserved := true }) ∧
    (s.phase = .fatal → exec (.rxByte b) s = .next { s with refused := true })

/-- R125: under APPEND_FIRST the capture append tests `capturing` as it was before this byte's toggle. -/
def Obligations.RxByteAppendFirst : Prop :=
  ∀ (s : State) (b : Byte), s.params.captureOrder = .appendFirst → s.phase ≠ .fatal →
    let marker : Bool := s.prev == 0x0F#8 && b == 0x0C#8 && decide (s.syncCount.toNat < 2)
    exec (.rxByte b) s = .next
      { s with
        capturing := if marker then !s.capturing else s.capturing
        syncCount := if marker then s.syncCount + 1#2 else s.syncCount
        prev := b
        cap := if s.capturing && decide (s.cap.len < 40) then s.cap.append b else s.cap
        capOverflow := s.capOverflow || (s.capturing && decide (40 ≤ s.cap.len))
        rxb := if s.rxb.len < s.params.rxCap then s.rxb.append b else s.rxb
        rxOverflow := s.rxOverflow || decide (s.params.rxCap ≤ s.rxb.len)
        responseObserved := true }

/-- R51, for every event but RESET: RXB and CAP change only at the index equal to their fill count, which grows by at
most one, and a byte once written stays; the frame of memory. An admitted RX_BYTE with room stores its byte there.
In a state that meets the invariant the indices from the fill count on hold no value. -/
def Obligations.ByteSpacesAreAppendOnly : Prop :=
  (∀ (i : Instr) (s t : State), i ≠ .reset → exec i s = .next t →
    (∀ a, a ≠ s.rxb.len → t.rxb.cells.read a = s.rxb.cells.read a) ∧
    (∀ a, a ≠ s.cap.len → t.cap.cells.read a = s.cap.cells.read a) ∧
    (t.rxb.len = s.rxb.len ∧ t.rxb = s.rxb ∨
      t.rxb.len = s.rxb.len + 1 ∧ ∃ b, i = .rxByte b ∧ t.rxb.cells.read s.rxb.len = some b) ∧
    (t.cap.len = s.cap.len ∧ t.cap = s.cap ∨
      t.cap.len = s.cap.len + 1 ∧ ∃ b, i = .rxByte b ∧ t.cap.cells.read s.cap.len = some b)) ∧
  (∀ (s : State) (b : Byte), s.phase ≠ .fatal → s.rxb.len < s.params.rxCap →
    ∃ t, exec (.rxByte b) s = .next t ∧ t.rxb.len = s.rxb.len + 1 ∧ t.rxb.cells.read s.rxb.len = some b) ∧
  (∀ (s : State) (a : Nat), s.Inv →
    (s.rxb.len ≤ a → s.rxb.cells.read a = none) ∧ (s.cap.len ≤ a → s.cap.cells.read a = none))

/-- R126 (a): every event but RESET either leaves the detector alone or makes one toggle, and there is no toggle
after the second. -/
def Obligations.DetectorTogglesAtMostTwice : Prop :=
  ∀ (i : Instr) (s t : State), i ≠ .reset → exec i s = .next t →
    (t.syncCount = s.syncCount ∧ t.capturing = s.capturing) ∨
    (t.syncCount.toNat = s.syncCount.toNat + 1 ∧ t.syncCount.toNat ≤ 2 ∧ t.capturing = !s.capturing)

/-- R126 (b) and (c): after two toggles nothing more is captured before a RESET; after one, capturing stays on until
the second toggle or a RESET. -/
def Obligations.CaptureIsOneRun : Prop :=
  ∀ (is : List Instr) (s t : State), s.Inv → (∀ i ∈ is, i ≠ .reset) → execAll is s = .next t →
    (s.syncCount = 2#2 → t.syncCount = 2#2 ∧ t.capturing = false ∧ t.cap = s.cap) ∧
    (s.syncCount = 1#2 → t.syncCount = 1#2 → t.capturing = true)

/-- R127: RX_ERR outside FATAL clears every result, keeps the receiver's registers and goes to FATAL, where every
event except RESET is refused. -/
def Obligations.RxErrIsFatal : Prop :=
  encode .rxErr = 0x200#12 ∧
  ∀ s : State,
    (s.phase ≠ .fatal →
      exec .rxErr s = .next
        { s with
          resCode := .transportReadError
          cfg := none
          live := none
          analog := none
          anCode := .none
          trailerMismatch := false
          phase := .fatal }) ∧
    (s.phase = .fatal → ∀ i : Instr, i ≠ .reset → exec i s = .next { s with refused := true })

/-! ### RESET, phases and refusal -/

/-- R220 and R46: RESET in any phase leaves every element at its reset value, and the mark `refused` as it was; the
STATUS word is then 0x00000C00. That the parameters and the undelivered events stay is the model's (log 2). -/
def Obligations.ResetRestoresResetValues : Prop :=
  encode .reset = 0xF00#12 ∧
  ∀ s : State, ∃ t, exec .reset s = .next t ∧
    t.phase = .idle ∧ t.cmdLatched = none ∧ t.prev = 0x00#8 ∧ t.capturing = false ∧ t.syncCount = 0#2 ∧
    t.responseObserved = false ∧ t.rxb.len = 0 ∧ t.rxOverflow = false ∧ t.cap.len = 0 ∧ t.capOverflow = false ∧
    t.rxs.len = 0 ∧ t.caps.len = 0 ∧ t.syncCountS = 0#2 ∧ t.capOverflowS = false ∧ t.resCode = .none ∧
    t.cfg = none ∧ t.live = none ∧ t.analog = none ∧ t.trailerMismatch = false ∧ t.anCode = .none ∧
    t.txLog = [] ∧ t.refused = s.refused ∧ t.status = 0x00000C00#32 ∧ t.params = s.params ∧ t.inputs = s.inputs

/-- R21: the phase's numbers, every way it changes, and that only RESET moves it backwards. -/
def Obligations.PhaseOnlyMovesForward : Prop :=
  (Phase.idle.code = 0#2 ∧ Phase.waiting.code = 1#2 ∧ Phase.done.code = 2#2 ∧ Phase.fatal.code = 3#2) ∧
  (∀ p : Params, (State.powerOn p).phase = .idle) ∧
  ∀ (i : Instr) (s t : State), exec i s = .next t →
    (i ≠ .reset → s.phase.code.toNat ≤ t.phase.code.toNat) ∧
    (t.phase ≠ s.phase →
      ((∃ c, i = commandEvent c) ∧ s.phase = .idle ∧ t.phase = .waiting) ∨
      (i = .waitDone ∧ s.phase = .waiting ∧ t.phase = .done) ∨
      (i = .rxErr ∧ s.phase ≠ .fatal ∧ t.phase = .fatal) ∨
      (i = .reset ∧ t.phase = .idle))

/-- R198: a refused event changes nothing but the mark; the refused events are the reserved words, CMD outside IDLE,
WAIT_DONE outside WAITING, and RX_BYTE and RX_ERR in FATAL. That the step takes a reserved word from a queue is the
model's choice (DESIGN CHOICE, log 2; a refused event as a next state is DEDUCED, log 5). -/
def Obligations.RefusedEventsChangeNothing : Prop :=
  (∀ (i : Instr) (s : State),
    ((∃ c, i = commandEvent c) ∧ s.phase ≠ .idle ∨ i = .waitDone ∧ s.phase ≠ .waiting ∨
      ((∃ b, i = .rxByte b) ∨ i = .rxErr) ∧ s.phase = .fatal) →
    exec i s = .next { s with refused := true }) ∧
  (∀ (s : State) (w : EventWord) (ws : List EventWord) (why : Reserved),
    s.params.wf = true → s.inputs = w :: ws → decode w = .reserved why →
    step s = .next { s with inputs := ws, refused := true })

/-- R199: in a state that meets the invariant, the phase alone decides: an admitted event runs and does not set the
mark, and an event that is not admitted sets it. -/
def Obligations.AdmissionDependsOnPhaseAlone : Prop :=
  ∀ (i : Instr) (s : State), s.Inv →
    ∃ t, exec i s = .next t ∧ t.refused = (s.refused || !admitted i s.phase)

/-- R193: RX_ERR enters FATAL from every other phase, and in FATAL every event except RESET is refused. -/
def Obligations.FatalRefusesAllButReset : Prop :=
  (∀ s : State, s.phase ≠ .fatal → ∃ t, exec .rxErr s = .next t ∧ t.phase = .fatal) ∧
  (∀ (i : Instr) (s : State), s.phase = .fatal → i ≠ .reset → exec i s = .next { s with refused := true }) ∧
  (∀ s : State, ∃ t, exec .reset s = .next t ∧ t.phase = .idle)

/-- R39: the mark `refused` is set by every refused event, reserved words among them, and is never cleared. -/
def Obligations.RefusedMarkIsSticky : Prop :=
  (∀ (i : Instr) (s t : State), admitted i s.phase = false → exec i s = .next t → t.refused = true) ∧
  (∀ (s t : State) (w : EventWord) (ws : List EventWord) (why : Reserved),
    s.inputs = w :: ws → decode w = .reserved why → step s = .next t → t.refused = true) ∧
  (∀ s t : State, step s = .next t → s.refused = true → t.refused = true)

/-- R64: the single writers. Only the receiver's events and RESET write the receiver's registers; only the
coordinator's events, RX_ERR and RESET write the results, and only WAIT_DONE and RESET the snapshot. -/
def Obligations.SingleWriters : Prop :=
  ∀ (i : Instr) (s t : State), exec i s = .next t →
    (agentOf i = .coordinator →
      t.rxb = s.rxb ∧ t.cap = s.cap ∧ t.prev = s.prev ∧ t.capturing = s.capturing ∧ t.syncCount = s.syncCount ∧
      t.responseObserved = s.responseObserved ∧ t.rxOverflow = s.rxOverflow ∧ t.capOverflow = s.capOverflow) ∧
    (agentOf i = .receiver →
      t.rxs = s.rxs ∧ t.caps = s.caps ∧ t.syncCountS = s.syncCountS ∧ t.capOverflowS = s.capOverflowS ∧
      t.cmdLatched = s.cmdLatched ∧ t.txLog = s.txLog) ∧
    ((∃ b, i = .rxByte b) →
      t.resCode = s.resCode ∧ t.cfg = s.cfg ∧ t.live = s.live ∧ t.trailerMismatch = s.trailerMismatch ∧
      t.anCode = s.anCode ∧ t.analog = s.analog ∧ t.phase = s.phase) ∧
    t.params = s.params ∧ t.inputs = s.inputs

/-- R204: no event writes ChecksumMismatch. -/
def Obligations.ChecksumMismatchNeverWritten : Prop :=
  ResCode.checksumMismatch.code = 13#4 ∧
  ∀ (i : Instr) (s t : State), exec i s = .next t → t.resCode = .checksumMismatch → s.resCode = .checksumMismatch

/-! ### The record unpacker -/

/-- R140, R56 and the frame of WAIT_DONE: in WAITING it completes, ends in DONE, takes the snapshot, and leaves the
receiver's registers, the latch, the transmit log and the mark alone. -/
def Obligations.WaitDoneCompletes : Prop :=
  ∀ s : State, s.Inv → s.phase = .waiting →
    ∃ t, exec .waitDone s = .next t ∧ t.phase = .done ∧
      t.rxs = s.rxb ∧ t.caps = s.cap ∧ t.syncCountS = s.syncCount ∧ t.capOverflowS = s.capOverflow ∧
      t.cmdLatched = s.cmdLatched ∧ t.prev = s.prev ∧ t.capturing = s.capturing ∧ t.syncCount = s.syncCount ∧
      t.responseObserved = s.responseObserved ∧ t.rxb = s.rxb ∧ t.rxOverflow = s.rxOverflow ∧ t.cap = s.cap ∧
      t.capOverflow = s.capOverflow ∧ t.txLog = s.txLog ∧ t.refused = s.refused ∧ t.params = s.params ∧
      t.inputs = s.inputs

/-- R142: with no response observed, WAIT_DONE gives NO_RESPONSE and no record whatever RXB holds, so no byte is read;
and no response has been observed exactly when no byte was received. -/
def Obligations.NoByteGivesNoResponse : Prop :=
  (∀ (s : State) (sp : ByteSpace), s.Inv → s.phase = .waiting → s.responseObserved = false →
    ∃ t, exec .waitDone { s with rxb := sp } = .next t ∧ t.resCode = .noResponse ∧ t.cfg = none ∧ t.live = none ∧
      t.trailerMismatch = false ∧ t.phase = .done) ∧
  (∀ s : State, s.Inv → (s.responseObserved = false ↔ s.rxb.len = 0))

/-- R143: bytes that do not begin with DLE and SDF_BYTE, or fewer than two bytes, give MALFORMED_FRAME and no
record. -/
def Obligations.BadMarkersGiveMalformedFrame : Prop :=
  ∀ (s : State) (bs : List Byte), s.Inv → s.phase = .waiting → s.rxb = ByteSpace.ofBytes bs → bs ≠ [] →
    (bs.length < 2 ∨ bs[0]? ≠ some 0x10#8 ∨ bs[1]? ≠ some s.params.sdfByte) →
    ∃ t, exec .waitDone s = .next t ∧ t.resCode = .malformedFrame ∧ t.cfg = none ∧ t.live = none ∧
      t.trailerMismatch = false

/-- R144: with good markers, a snapshot shorter than its record gives MALFORMED_FRAME and no record: shorter than
3 + CONFIG_SIZE for a ConfigRecord, and for live data shorter than 5, or shorter than 35 with version 4. -/
def Obligations.ShortRecordGivesMalformedFrame : Prop :=
  ∀ (s : State) (bs : List Byte), s.Inv → s.phase = .waiting → s.rxb = ByteSpace.ofBytes bs →
    bs[0]? = some 0x10#8 → bs[1]? = some s.params.sdfByte →
    (s.cmdLatched = some .cfg ∧ bs.length < 3 + layoutSize s.params.configLayout ∨
      s.cmdLatched ≠ some .cfg ∧
        (bs.length < 5 ∨ bs.length < 35 ∧ u16of s.params.recOrder (bs.getD 3 0#8) (bs.getD 4 0#8) = 4#16)) →
    ∃ t, exec .waitDone s = .next t ∧ t.resCode = .malformedFrame ∧ t.cfg = none ∧ t.live = none ∧
      t.trailerMismatch = false

/-- R148: live data whose version field is not 4 gives UNSUPPORTED_VERSION and no record, even cut short; and which
bytes are version 4 in either byte order. -/
def Obligations.OtherVersionIsUnsupported : Prop :=
  (∀ b0 b1 : Byte,
    (u16of .le b0 b1 = 4#16 ↔ b0 = 0x04#8 ∧ b1 = 0x00#8) ∧ (u16of .be b0 b1 = 4#16 ↔ b0 = 0x00#8 ∧ b1 = 0x04#8)) ∧
  ∀ (s : State) (bs : List Byte), s.Inv → s.phase = .waiting → s.rxb = ByteSpace.ofBytes bs →
    bs[0]? = some 0x10#8 → bs[1]? = some s.params.sdfByte → 5 ≤ bs.length → s.cmdLatched ≠ some .cfg →
    u16of s.params.recOrder (bs.getD 3 0#8) (bs.getD 4 0#8) ≠ 4#16 →
    ∃ t, exec .waitDone s = .next t ∧ t.resCode = .unsupportedVersion ∧ t.cfg = none ∧ t.live = none ∧
      t.trailerMismatch = false

/-- R145 with R150: a long enough response to read-config-data gives a ConfigRecord whose fields are those of the
layout, each assembled from the bytes at its offset from receive index 3. -/
def Obligations.ConfigRecordIsUnpacked : Prop :=
  ∀ (s : State) (bs : List Byte), s.Inv → s.phase = .waiting → s.cmdLatched = some .cfg →
    s.rxb = ByteSpace.ofBytes bs → bs[0]? = some 0x10#8 → bs[1]? = some s.params.sdfByte →
    3 + layoutSize s.params.configLayout ≤ bs.length →
    ∃ t r, exec .waitDone s = .next t ∧ t.resCode = .configRecord ∧ t.cfg = some r ∧ t.live = none ∧
      t.trailerMismatch = false ∧ r.map Prod.fst = s.params.configLayout.map LayoutRow.field ∧
      ∀ row ∈ s.params.configLayout, ∃ v, fieldOf row.field r = some v ∧
        assembleField s.params.recOrder row.type ((bs.drop (3 + row.offset)).take row.type.size) = some v

/-- R146, R147, R149: a version-4 response of at least 35 bytes to either live command gives a LiveDataRecord, each
field from the bytes at its offset; read-live-data alone checks the trailer at indices 35 and 36. -/
def Obligations.LiveRecordIsUnpacked : Prop :=
  ∀ (s : State) (bs : List Byte), s.Inv → s.phase = .waiting → s.cmdLatched ≠ some .cfg →
    s.rxb = ByteSpace.ofBytes bs → bs[0]? = some 0x10#8 → bs[1]? = some s.params.sdfByte → 35 ≤ bs.length →
    u16of s.params.recOrder (bs.getD 3 0#8) (bs.getD 4 0#8) = 4#16 →
    ∃ t r, exec .waitDone s = .next t ∧ t.resCode = .liveRecord ∧ t.live = some r ∧ t.cfg = none ∧
      r.map Prod.fst = liveLayout.map LayoutRow.field ∧
      (∀ row ∈ liveLayout, ∃ v, fieldOf row.field r = some v ∧
        assembleField s.params.recOrder row.type ((bs.drop (3 + row.offset)).take row.type.size) = some v) ∧
      (t.trailerMismatch = true ↔
        s.cmdLatched = some .live ∧
          ¬ (37 ≤ bs.length ∧ bs[35]? = some 0x10#8 ∧ bs[36]? = some s.params.eofByte))

/-- R81 and R82: the value of 16- and 32-bit fields in both byte orders, `b0` at the lowest index. -/
def Obligations.FieldByteOrders : Prop :=
  (∀ b0 b1 : Byte,
    (∃ v, assembleField .le .u16 [b0, b1] = some (.u16 v) ∧ v.toNat = b0.toNat + 256 * b1.toNat) ∧
    (∃ v, assembleField .be .u16 [b0, b1] = some (.u16 v) ∧ v.toNat = 256 * b0.toNat + b1.toNat)) ∧
  (∀ b0 b1 b2 b3 : Byte,
    (∃ v, assembleField .le .u32 [b0, b1, b2, b3] = some (.u32 v) ∧
      assembleField .le .f32bits [b0, b1, b2, b3] = some (.f32bits v) ∧
      v.toNat = b0.toNat + 2 ^ 8 * b1.toNat + 2 ^ 16 * b2.toNat + 2 ^ 24 * b3.toNat) ∧
    (∃ v, assembleField .be .u32 [b0, b1, b2, b3] = some (.u32 v) ∧
      assembleField .be .f32bits [b0, b1, b2, b3] = some (.f32bits v) ∧
      v.toNat = 2 ^ 24 * b0.toNat + 2 ^ 16 * b1.toNat + 2 ^ 8 * b2.toNat + b3.toNat))

/-- R84, R86, R87: the rows of the default layouts (field, offset, type) written out, their sizes, that the rows follow
one another, and the trailer's place. -/
def Obligations.LayoutSizes : Prop :=
  layoutSize defaultConfigLayout = 78 ∧ layoutSize liveLayout = 32 ∧
  contiguousFrom 0 defaultConfigLayout = true ∧ contiguousFrom 0 liveLayout = true ∧
  keepsFieldOrder defaultConfigLayout = true ∧ trailerOffset = 35 ∧ pRef.rxMinCap = 81 ∧
  liveLayout =
    [⟨.version, 0, .u16⟩, ⟨.status, 2, .u16⟩, ⟨.reading, 4, .f32bits⟩, ⟨.temperature, 8, .f32bits⟩] ++
    [⟨.detector, 12, .u16⟩, ⟨.reference, 14, .u16⟩, ⟨.absorbance, 16, .f32bits⟩, ⟨.uptime, 20, .u32⟩] ++
    [⟨.detMin, 24, .u16⟩, ⟨.detMax, 26, .u16⟩, ⟨.refMin, 28, .u16⟩, ⟨.refMax, 30, .u16⟩] ∧
  defaultConfigLayout =
    [⟨.version, 0, .u16⟩, ⟨.sensorType, 2, .tag8⟩, ⟨.mode, 10, .u16⟩, ⟨.fsdCode, 12, .u16⟩,
      ⟨.zeroOffset, 14, .f32bits⟩] ++
    [⟨.zeroCalTemp, 18, .f32bits⟩, ⟨.spanCalTemp, 22, .f32bits⟩, ⟨.dacZero, 26, .f32bits⟩,
      ⟨.dacFsd, 30, .f32bits⟩, ⟨.posZeroSupp, 34, .f32bits⟩] ++
    [⟨.negZeroSupp, 38, .f32bits⟩, ⟨.calGasValue, 42, .f32bits⟩, ⟨.spanOffset, 46, .f32bits⟩, ⟨.el, 50, .f32bits⟩,
      ⟨.power, 54, .f32bits⟩] ++
    [⟨.serialNumber, 58, .tag10⟩, ⟨.rounding, 68, .f32bits⟩, ⟨.dacPowerup, 72, .u16⟩, ⟨.baudRate, 74, .u16⟩,
      ⟨.warmupTime, 76, .u16⟩]

/-- R151: UNPACK of a packed record after any three-byte head, with any tail, gives the record back, in either byte
order and for every contiguous layout. -/
def Obligations.UnpackInvertsPack : Prop :=
  (∀ (order : RecOrder) (layout : List (LayoutRow ConfigField)) (r : Record ConfigField) (d m x : Byte)
      (tail : List Byte), contiguousFrom 0 layout = true → hasShape layout r = true →
    unpack order (ByteSpace.ofBytes ([d, m, x] ++ pack order r ++ tail)) 3 layout = .ok r) ∧
  (∀ (order : RecOrder) (r : Record LiveField) (d m x : Byte) (tail : List Byte), hasShape liveLayout r = true →
    unpack order (ByteSpace.ofBytes ([d, m, x] ++ pack order r ++ tail)) 3 liveLayout = .ok r)

/-- The round trip through the machine (R145, R151): when the bytes received are DLE, SDF_BYTE, any byte, a packed
ConfigRecord and any tail, WAIT_DONE after read-config-data gives that record back. -/
def Obligations.ConfigResponseRoundTrip : Prop :=
  ∀ (s : State) (r : Record ConfigField) (x : Byte) (tail : List Byte),
    s.Inv → s.phase = .waiting → s.cmdLatched = some .cfg → hasShape s.params.configLayout r = true →
    s.rxb = ByteSpace.ofBytes ([0x10#8, s.params.sdfByte, x] ++ pack s.params.recOrder r ++ tail) →
    ∃ t, exec .waitDone s = .next t ∧ t.resCode = .configRecord ∧ t.cfg = some r

/-- R79: receive index 2 is read by no rule: two states that differ in that byte alone give the same results. -/
def Obligations.ReceiveIndexTwoIsNotRead : Prop :=
  ∀ (s s' t t' : State) (b0 b1 x y : Byte) (rest : List Byte),
    s.rxb = ByteSpace.ofBytes (b0 :: b1 :: x :: rest) →
    s' = { s with rxb := ByteSpace.ofBytes (b0 :: b1 :: y :: rest) } →
    exec .waitDone s = .next t → exec .waitDone s' = .next t' →
    t'.resCode = t.resCode ∧ t'.cfg = t.cfg ∧ t'.live = t.live ∧ t'.trailerMismatch = t.trailerMismatch ∧
      t'.anCode = t.anCode ∧ t'.analog = t.analog ∧ t'.phase = t.phase

/-- R123: with the default layout, bytes received past index 80 (the only ones an overflow can drop) change no
result. -/
def Obligations.BytesPastEightyOneDoNotMatter : Prop :=
  ∀ (s s' : State) (bs bs' : List Byte),
    s.Inv → s.phase = .waiting → s.params.configLayout = defaultConfigLayout →
    s.rxb = ByteSpace.ofBytes bs → s' = { s with rxb := ByteSpace.ofBytes bs' } → bs.take 81 = bs'.take 81 →
    ∃ t t', exec .waitDone s = .next t ∧ exec .waitDone s' = .next t' ∧
      t'.resCode = t.resCode ∧ t'.cfg = t.cfg ∧ t'.live = t.live ∧ t'.trailerMismatch = t.trailerMismatch ∧
      t'.anCode = t.anCode ∧ t'.analog = t.analog

/-- R65, R53: the snapshot holds exactly the bytes of the RX_BYTE events before WAIT_DONE, in arrival order, up to
RX_CAP; and no byte after it changes the snapshot or a result. -/
def Obligations.SnapshotHoldsTheBytesBeforeWait : Prop :=
  ∀ (s : State) (before received late : List Byte), s.Inv → s.phase = .waiting →
    s.rxb = ByteSpace.ofBytes before →
    ∃ t u, execAll (received.map .rxByte ++ [.waitDone]) s = .next t ∧
      t.rxs = ByteSpace.ofBytes ((before ++ received).take s.params.rxCap) ∧
      execAll (late.map .rxByte) t = .next u ∧
      u.rxs = t.rxs ∧ u.caps = t.caps ∧ u.syncCountS = t.syncCountS ∧ u.capOverflowS = t.capOverflowS ∧
      u.resCode = t.resCode ∧ u.cfg = t.cfg ∧ u.live = t.live ∧ u.trailerMismatch = t.trailerMismatch ∧
      u.anCode = t.anCode ∧ u.analog = t.analog

/-- R33, R34, R37: in every state that events reach from power-on, a record is there exactly when its code says so,
and it has a value of the right type for every field of its layout: never a partial record. -/
def Obligations.RecordsPresentExactlyWithTheirCode : Prop :=
  ∀ (p : Params) (is : List Instr) (t : State), p.wf = true → execAll is (State.powerOn p) = .next t →
    (t.cfg ≠ none ↔ t.resCode = .configRecord) ∧ (∀ r, t.cfg = some r → hasShape p.configLayout r = true) ∧
    (t.live ≠ none ↔ t.resCode = .liveRecord) ∧ (∀ r, t.live = some r → hasShape liveLayout r = true) ∧
    (t.analog ≠ none ↔ t.anCode = .analogReading)

/-! ### The analog datapath -/

/-- R173: when the reading is absent. -/
def Obligations.AnalogPresence : Prop :=
  ∀ s : State, s.Inv → s.phase = .waiting →
    ∃ t, exec .waitDone s = .next t ∧
      (s.syncCount = 0#2 → t.anCode = .noCapture ∧ t.analog = none) ∧
      (s.syncCount ≠ 0#2 → s.cap.len < 34 → t.anCode = .insufficientCaptureData ∧ t.analog = none) ∧
      (s.syncCount ≠ 0#2 → 34 ≤ s.cap.len → t.anCode = .analogReading ∧ t.analog ≠ none)

/-- R171 and R172: the integer words and the four scaled values of the reading, in the order of operations of the C
formulas. The binary64 operations are the model's reading of R11 (log 11). -/
def Obligations.AnalogReadingFormulas : Prop :=
  ∀ (s : State) (bs : List Byte), s.Inv → s.phase = .waiting → s.syncCount ≠ 0#2 →
    s.cap = ByteSpace.ofBytes bs → 34 ≤ bs.length →
    let c : Nat → Nat := fun k => (bs.getD k 0#8 &&& 0x7F#8).toNat
    let u : F64 := fdiv (lit 3 1) (lit 32768 1)
    ∃ t a, exec .waitDone s = .next t ∧ t.anCode = .analogReading ∧ t.analog = some a ∧
      a.data1 = 128 * c 2 + c 3 ∧ a.data4 = 4 * (128 * c 8 + c 9) ∧ a.data5 = 4 * (128 * c 10 + c 11) ∧
      a.data16 = 128 * (c 32 + c 33) ∧
      a.light = fmul (i2f a.data1) u ∧
      a.tempC = fdiv (fsub (fdiv (fmul (fdiv (fmul u (i2f a.data4)) (lit 3 1)) (lit 27 10)) (lit 2 1))
        (lit 5 10)) (lit 1 100) ∧
      a.humPct = fdiv (fdiv (fsub (fdiv (fmul (fmul (i2f a.data5) u) (lit 27 10)) (i2f 9)) (lit 1515 10000))
        (lit 636 100000)) (fsub (lit 10546 10000) (fmul (lit 216 100000) a.tempC)) ∧
      a.lelPct = i2f a.data16

/-- R177: the reading does not depend on the command, on the bytes received or on the decode result: two waiting
states with the same capture give the same reading. -/
def Obligations.AnalogIndependentOfRecord : Prop :=
  ∀ s s' : State, s.Inv → s'.Inv → s.phase = .waiting → s'.phase = .waiting →
    s.cap = s'.cap → s.syncCount = s'.syncCount →
    ∃ t t', exec .waitDone s = .next t ∧ exec .waitDone s' = .next t' ∧
      t.anCode = t'.anCode ∧ t.analog = t'.analog

/-- R170: bit 7 of every captured byte, and every byte but the eight that are read, does not matter. -/
def Obligations.AnalogReadsSevenBitsOfEightBytes : Prop :=
  ∀ (s s' : State) (bs bs' : List Byte), s.Inv → s'.Inv → s.phase = .waiting → s'.phase = .waiting →
    s.syncCount = s'.syncCount → s.cap = ByteSpace.ofBytes bs → s'.cap = ByteSpace.ofBytes bs' →
    bs.length = bs'.length →
    (∀ k ∈ [2, 3, 8, 9, 10, 11, 32, 33], bs.getD k 0#8 &&& 0x7F#8 = bs'.getD k 0#8 &&& 0x7F#8) →
    ∃ t t', exec .waitDone s = .next t ∧ exec .waitDone s' = .next t' ∧
      t.anCode = t'.anCode ∧ t.analog = t'.analog

/-- R88 and R171: the capture operands, their ranges, and the integer words made of them. -/
def Obligations.CaptureOperandRanges : Prop :=
  (∀ h l : Byte,
    pair7 h l = 128 * (h &&& 0x7F#8).toNat + (l &&& 0x7F#8).toNat ∧ pair7 h l ≤ 16383 ∧
    pair7 h l = 128 * (h.toNat % 128) + l.toNat % 128 ∧
    sum7 h l = (h &&& 0x7F#8).toNat + (l &&& 0x7F#8).toNat ∧ sum7 h l ≤ 254) ∧
  (∀ c2 c3 c8 c9 c10 c11 c32 c33 : Byte,
    let w := analogWordsOf c2 c3 c8 c9 c10 c11 c32 c33
    w.data1 = pair7 c2 c3 ∧ w.data4 = 4 * pair7 c8 c9 ∧ w.data5 = 4 * pair7 c10 c11 ∧
    w.data16 = 128 * sum7 c32 c33 ∧ w.data1 ≤ 16383 ∧ w.data4 ≤ 65532 ∧ w.data5 ≤ 65532 ∧ w.data16 ≤ 32512)

/-- R174: the light intensity and the LEL value are exact: data1 · 3 · 2^-15 and data16. -/
def Obligations.LightAndLelAreExact : Prop :=
  (∀ d, d ≤ 16383 → ∃ n, datum (lightOf d) = .finite false n ∧ n * 2 ^ 15 = d * 3 * 2 ^ 1074) ∧
  (∀ k, k ≤ 254 → datum (i2f (128 * k)) = .finite false (128 * k * 2 ^ 1074))

/-- R174: the temperature never decreases as data4 grows, over all 16384 values of data4; it is -50.0 exactly at 0 and
219.98352050781253 at 65532, so it stays between them and is never a NaN or an infinity. -/
def Obligations.TemperatureIsMonotone : Prop :=
  (∀ m n : Nat, m ≤ n → n ≤ 16383 →
    ∃ x y, f64Units (tempOf (4 * m)) = some x ∧ f64Units (tempOf (4 * n)) = some y ∧ x ≤ y) ∧
  (∀ m : Nat, m ≤ 16383 → (tempOf (4 * m) = 0xC049000000000000#64 ↔ m = 0)) ∧
  tempOf 65532 = 0x406B7F7900000001#64

/-- R174: the humidity divisor stays in [0.579435595703125, 1.1626] and the humidity in [-41.11027160503571,
447.29878700706126], for every data4 and data5. The bounds are the binary64 values of these decimals. -/
def Obligations.HumidityIsInRange : Prop :=
  ∀ m n : Nat, m ≤ 16383 → n ≤ 16383 →
    ∃ d dMin dMax h hMin hMax,
      f64Units (humDivisor (tempOf (4 * m))) = some d ∧ f64Units 0x3FE28ABC84B5DCC6#64 = some dMin ∧
      f64Units 0x3FF29A027525460B#64 = some dMax ∧ dMin ≤ d ∧ d ≤ dMax ∧
      f64Units (humOf (4 * n) (tempOf (4 * m))) = some h ∧ f64Units 0xC0448E1D6144A725#64 = some hMin ∧
      f64Units 0x407BF4C7D4E27CC4#64 = some hMax ∧ hMin ≤ h ∧ h ≤ hMax

/-- R174: no capture gives a NaN or an infinity, and the humidity divisor is positive. -/
def Obligations.AnalogResultsAreFinite : Prop :=
  ∀ c2 c3 c8 c9 c10 c11 c32 c33 : Byte,
    let a := scaleWords (analogWordsOf c2 c3 c8 c9 c10 c11 c32 c33)
    f64Units a.light ≠ none ∧ f64Units a.tempC ≠ none ∧ f64Units a.humPct ≠ none ∧ f64Units a.lelPct ≠ none ∧
      ∃ x, f64Units (humDivisor a.tempC) = some x ∧ 0 < x

/-- The all-zero capture (R170, 95 E5): light 0, temperature -50.0, LEL 0. -/
def Obligations.AllZeroCaptureReading : Prop :=
  ∀ (s : State) (n : Nat), s.Inv → s.phase = .waiting → s.syncCount ≠ 0#2 → 33 ≤ n →
    s.cap = ByteSpace.ofBytes (0x0C#8 :: List.replicate n 0x00#8) →
    ∃ t a, exec .waitDone s = .next t ∧ t.analog = some a ∧
      a.data1 = 0 ∧ a.light = 0#64 ∧ a.tempC = 0xC049000000000000#64 ∧ a.lelPct = 0#64

/-! ### Views -/

/-- R41, R42 and R40: the fields of STATUS, `done`, and the reset value. -/
def Obligations.StatusFields : Prop :=
  (∀ s : State,
    s.status.extractLsb' 0 2 = s.phase.code ∧ s.status.extractLsb' 2 1 = BitVec.ofBool s.capturing ∧
    s.status.extractLsb' 3 2 = s.syncCount ∧ s.status.extractLsb' 5 1 = BitVec.ofBool s.responseObserved ∧
    s.status.extractLsb' 6 1 = BitVec.ofBool s.rxOverflow ∧
    s.status.extractLsb' 7 1 = BitVec.ofBool s.capOverflow ∧
    s.status.extractLsb' 8 1 = BitVec.ofBool s.trailerMismatch ∧
    s.status.extractLsb' 9 1 = BitVec.ofBool (decide (s.phase = .done ∨ s.phase = .fatal)) ∧
    s.status.extractLsb' 10 2 = cmdCode s.cmdLatched ∧ s.status.extractLsb' 12 4 = s.resCode.code ∧
    s.status.extractLsb' 16 4 = s.anCode.code ∧ s.status.extractLsb' 20 12 = 0#12) ∧
  (∀ p : Params, (State.powerOn p).status = 0x00000C00#32) ∧
  (∀ (s : State) (v : BitVec 32), s.writeStatus v = s)

/-- R190: the numbers of the result codes. -/
def Obligations.ResultCodeNumbers : Prop :=
  ResCode.none.code = 0#4 ∧ ResCode.configRecord.code = 1#4 ∧ ResCode.liveRecord.code = 2#4 ∧
  ResCode.transportReadError.code = 8#4 ∧ ResCode.noResponse.code = 9#4 ∧ ResCode.malformedFrame.code = 10#4 ∧
  ResCode.unsupportedVersion.code = 11#4 ∧ ResCode.checksumMismatch.code = 13#4 ∧
  AnCode.none.code = 0#4 ∧ AnCode.analogReading.code = 1#4 ∧ AnCode.noCapture.code = 2#4 ∧
  AnCode.insufficientCaptureData.code = 12#4

/-! ### The whole machine -/

/-- R52: MemRead of filled bytes gives them, past the fill count it is a fault, and from a state that meets the
invariant no event faults or is left without a step: an unfilled byte is never read. -/
def Obligations.NoEventReadsUnfilledBytes : Prop :=
  (∀ (sp : ByteSpace) (i n : Nat), sp.len < i + n → memRead sp i n = .error .unfilledRead) ∧
  (∀ (bs : List Byte) (i n : Nat), i + n ≤ bs.length →
    memRead (ByteSpace.ofBytes bs) i n = .ok ((bs.drop i).take n)) ∧
  (∀ (i : Instr) (s : State), s.Inv → ∃ t, exec i s = .next t)

/-- The invariant holds at power-on with any well-formed parameters (R46). -/
def Obligations.InvariantHoldsAtReset : Prop :=
  (∀ p : Params, p.wf = true → (State.powerOn p).Inv) ∧ State.reset.Inv

/-- Every step keeps the invariant. -/
def Obligations.StepKeepsInvariant : Prop :=
  ∀ s t : State, s.Inv → step s = .next t → t.Inv

/-- R200's claim "every invocation ends": from WAITING, whatever bytes come first, the WAIT_DONE or RX_ERR that the
environment delivers sets `done`. -/
def Obligations.EveryInvocationEnds : Prop :=
  ∀ (s : State) (bs : List Byte) (i : Instr), s.Inv → s.phase = .waiting → i = .waitDone ∨ i = .rxErr →
    ∃ t, execAll (bs.map .rxByte ++ [i]) s = .next t ∧ t.doneFlag = true

/-! ### The other views -/

/-- R43 with R33, R34 and R37: RX_LEN is rx_len, CAP_LEN the six bits of cap_len, both zero-extended; a record that is
absent gives no value for any field (that a read of one answers none is DEDUCED, log 23); a record that is present gives
for every field of its layout the value it holds, of the right type. An rx_len of 2^32 or more is left out: R43 does
not say what shows of it (DESIGN CHOICE, log 26). -/
def Obligations.ReadOnlyViews : Prop :=
  (∀ s : State, s.rxb.len < 2 ^ 32 → s.rxLenView.toNat = s.rxb.len) ∧
  (∀ s : State, s.capLenView.extractLsb' 0 6 = BitVec.ofNat 6 s.cap.len ∧ s.capLenView.extractLsb' 6 26 = 0#26) ∧
  (∀ s : State, s.Inv → s.capLenView.toNat = s.cap.len) ∧
  (∀ s : State,
    (s.cfg = none → ∀ f, s.readCfg f = none) ∧ (s.live = none → ∀ f, s.readLive f = none) ∧
    s.readAnalog = s.analog) ∧
  (∀ (s : State) (r : Record ConfigField), s.Inv → s.cfg = some r → ∀ row ∈ s.params.configLayout,
    ∃ v, s.readCfg row.field = some v ∧ (row.field, v) ∈ r ∧ v.hasType row.type = true) ∧
  (∀ (s : State) (r : Record LiveField), s.Inv → s.live = some r → ∀ row ∈ liveLayout,
    ∃ v, s.readLive row.field = some v ∧ (row.field, v) ∈ r ∧ v.hasType row.type = true)
end

