-- ==== Sys2Proof/Laws/Memory.lean ====
section
/-! SUPPORT. The laws of byte spaces (20_memory.md R51, R52): read after write, the canonical form, and a filled byte
space as the list of its bytes. -/

namespace Sys2Proof.Machine

theorem Memory.read_write_same (m : Memory) (a : Nat) (b : Byte) : (m.write a b).read a = some b := by
  induction m with
  | nil => simp [Memory.write, Memory.read]
  | cons cell rest ih =>
    obtain ⟨k, c⟩ := cell
    unfold Memory.write
    split
    · simp [Memory.read]
    · split
      · simp [Memory.read]
      · have hk : ¬ k = a := by omega
        simp [Memory.read, hk, ih]

theorem Memory.read_write_other (m : Memory) (a a' : Nat) (b : Byte) (h : a' ≠ a) :
    (m.write a b).read a' = m.read a' := by
  induction m with
  | nil => simp [Memory.write, Memory.read, h.symm]
  | cons cell rest ih =>
    obtain ⟨k, c⟩ := cell
    unfold Memory.write
    split
    · simp [Memory.read, h.symm]
    · split
      · rename_i hk
        subst hk
        simp [Memory.read, h.symm]
      · simp [Memory.read, ih]

/-- The addresses a write leaves are the old ones and the written one. -/
theorem Memory.mem_write_addresses (m : Memory) (a x : Nat) (b : Byte)
    (h : x ∈ (m.write a b).map Prod.fst) : x = a ∨ x ∈ m.map Prod.fst := by
  induction m with
  | nil => simpa [Memory.write] using h
  | cons cell rest ih =>
    obtain ⟨k, c⟩ := cell
    unfold Memory.write at h
    split at h
    · simpa using h
    · split at h
      · simp only [List.map_cons, List.mem_cons] at h ⊢
        tauto
      · simp only [List.map_cons, List.mem_cons] at h ⊢
        rcases h with h | h
        · exact .inr (.inl h)
        · rcases ih h with h | h
          · exact .inl h
          · exact .inr (.inr h)

/-- A write keeps the canonical form. -/
theorem Memory.write_wf (m : Memory) (a : Nat) (b : Byte) (h : m.wf) : (m.write a b).wf := by
  induction m with
  | nil => simp [Memory.write, Memory.wf]
  | cons cell rest ih =>
    obtain ⟨k, c⟩ := cell
    simp only [Memory.wf, List.map_cons, List.pairwise_cons] at h ih ⊢
    unfold Memory.write
    split
    · rename_i hak
      simp only [List.map_cons, List.pairwise_cons, List.mem_cons]
      refine ⟨fun x hx => ?_, h⟩
      rcases hx with rfl | hx
      · exact hak
      · exact Nat.lt_trans hak (h.1 x hx)
    · split
      · rename_i hak
        subst hak
        simpa using h
      · simp only [List.map_cons, List.pairwise_cons]
        refine ⟨fun x hx => ?_, ih h.2⟩
        rcases Memory.mem_write_addresses rest a x b hx with rfl | hx
        · omega
        · exact h.1 x hx

/-- A filled byte space is in canonical form. -/
theorem ByteSpace.wf_of_filled {sp : ByteSpace} (h : sp.filled = true) : sp.cells.wf := by
  simp only [ByteSpace.filled, beq_iff_eq] at h
  simp only [Memory.wf, h]
  exact List.pairwise_lt_range

@[simp] theorem ByteSpace.empty_filled : ByteSpace.empty.filled = true := rfl

@[simp] theorem ByteSpace.empty_len : ByteSpace.empty.len = 0 := rfl

theorem ByteSpace.empty_eq_ofBytes : ByteSpace.empty = ByteSpace.ofBytes [] := rfl

@[simp] theorem cellsFrom_addresses (a : Nat) (bs : List Byte) :
    (cellsFrom a bs).map Prod.fst = List.range' a bs.length := by
  induction bs generalizing a with
  | nil => rfl
  | cons b bs ih => simp [cellsFrom, ih, List.range'_succ]

@[simp] theorem cellsFrom_bytes (a : Nat) (bs : List Byte) : (cellsFrom a bs).map Prod.snd = bs := by
  induction bs generalizing a with
  | nil => rfl
  | cons b bs ih => simp [cellsFrom, ih]

theorem cellsFrom_of_addresses (m : Memory) (a n : Nat) (h : m.map Prod.fst = List.range' a n) :
    m = cellsFrom a (m.map Prod.snd) := by
  induction m generalizing a n with
  | nil => rfl
  | cons cell rest ih =>
    obtain ⟨k, c⟩ := cell
    cases n with
    | zero => simp at h
    | succ n =>
      simp only [List.map_cons, List.range'_succ, List.cons.injEq] at h
      obtain ⟨rfl, h⟩ := h
      rw [List.map_cons, cellsFrom, ← ih _ _ h]

@[simp] theorem ByteSpace.ofBytes_len (bs : List Byte) : (ByteSpace.ofBytes bs).len = bs.length := rfl

@[simp] theorem ByteSpace.ofBytes_filled (bs : List Byte) : (ByteSpace.ofBytes bs).filled = true := by
  simp [ByteSpace.filled, ByteSpace.ofBytes, List.range_eq_range']

/-- A filled byte space holds exactly the list of its bytes. -/
theorem ByteSpace.eq_ofBytes_of_filled {sp : ByteSpace} (h : sp.filled = true) :
    sp = ByteSpace.ofBytes (sp.cells.map Prod.snd) := by
  obtain ⟨cells, len⟩ := sp
  simp only [ByteSpace.filled, beq_iff_eq] at h
  have hlen : cells.length = len := by simpa using congrArg List.length h
  have hc := cellsFrom_of_addresses cells 0 len (by simpa [List.range_eq_range'] using h)
  simp only [ByteSpace.ofBytes, List.length_map, hlen]
  rw [← hc]

theorem ByteSpace.filled_iff (sp : ByteSpace) : sp.filled = true ↔ ∃ bs, sp = ByteSpace.ofBytes bs :=
  ⟨fun h => ⟨_, ByteSpace.eq_ofBytes_of_filled h⟩, by rintro ⟨bs, rfl⟩; exact ByteSpace.ofBytes_filled bs⟩

theorem cellsFrom_write_end (a : Nat) (bs : List Byte) (b : Byte) :
    Memory.write (cellsFrom a bs) (a + bs.length) b = cellsFrom a (bs ++ [b]) := by
  induction bs generalizing a with
  | nil => simp [cellsFrom, Memory.write]
  | cons c bs ih =>
    have h := ih (a + 1)
    rw [show a + 1 + bs.length = a + (bs.length + 1) by omega] at h
    simp only [cellsFrom, List.length_cons, List.cons_append, Memory.write, h]
    simp

/-- `Append` adds the byte at the end. -/
@[simp] theorem ByteSpace.ofBytes_append (bs : List Byte) (b : Byte) :
    (ByteSpace.ofBytes bs).append b = ByteSpace.ofBytes (bs ++ [b]) := by
  have h := cellsFrom_write_end 0 bs b
  simp only [Nat.zero_add] at h
  simp [ByteSpace.append, ByteSpace.write, ByteSpace.ofBytes, h]

/-- `Append` keeps the form of a byte space (R51). -/
theorem ByteSpace.append_filled {sp : ByteSpace} (h : sp.filled = true) (b : Byte) : (sp.append b).filled = true := by
  rw [ByteSpace.eq_ofBytes_of_filled h, ByteSpace.ofBytes_append]
  exact ByteSpace.ofBytes_filled _

@[simp] theorem ByteSpace.append_len (sp : ByteSpace) (b : Byte) : (sp.append b).len = sp.len + 1 := rfl

theorem cellsFrom_read (a i : Nat) (bs : List Byte) : Memory.read (cellsFrom a bs) (a + i) = bs[i]? := by
  induction bs generalizing a i with
  | nil => rfl
  | cons c bs ih =>
    cases i with
    | zero => simp [cellsFrom, Memory.read]
    | succ i =>
      have h := ih (a + 1) i
      rw [show a + 1 + i = a + (i + 1) by omega] at h
      simp [cellsFrom, Memory.read, h]

@[simp] theorem ByteSpace.ofBytes_readCell (bs : List Byte) (i : Nat) :
    (ByteSpace.ofBytes bs).cells.read i = bs[i]? := by
  simpa [ByteSpace.ofBytes] using cellsFrom_read 0 i bs

theorem ByteSpace.ofBytes_readN (bs : List Byte) (i n : Nat) (h : i + n ≤ bs.length) :
    (ByteSpace.ofBytes bs).cells.readN i n = some ((bs.drop i).take n) := by
  induction n generalizing i with
  | zero => simp [Memory.readN]
  | succ n ih =>
    have hi : i < bs.length := by omega
    rw [Memory.readN, ByteSpace.ofBytes_readCell, ih (i + 1) (by omega), List.getElem?_eq_getElem hi,
      List.drop_eq_getElem_cons hi, List.take_succ_cons]

/-- `MemRead` of a filled byte space: the bytes of the range, and no value past the fill count (R52). -/
theorem ByteSpace.ofBytes_read (bs : List Byte) (i n : Nat) :
    (ByteSpace.ofBytes bs).read i n = if i + n ≤ bs.length then some ((bs.drop i).take n) else none := by
  unfold ByteSpace.read
  by_cases h : i + n ≤ bs.length
  · simp [h, ByteSpace.ofBytes_readN _ _ _ h]
  · simp [h]

/-- What `memRead` answers on a filled byte space. -/
theorem memRead_ofBytes (bs : List Byte) (i n : Nat) :
    memRead (ByteSpace.ofBytes bs) i n =
      if i + n ≤ bs.length then .ok ((bs.drop i).take n) else .error .unfilledRead := by
  unfold memRead
  rw [ByteSpace.ofBytes_read]
  split <;> split <;> simp_all

/-- What `readByte` answers on a filled byte space. -/
theorem readByte_ofBytes (bs : List Byte) (i : Nat) :
    readByte (ByteSpace.ofBytes bs) i = (match bs[i]? with | some b => .ok b | none => .error .unfilledRead) := by
  unfold readByte
  rw [memRead_ofBytes]
  by_cases h : i < bs.length
  · rw [if_pos (by omega), List.drop_eq_getElem_cons h, List.getElem?_eq_getElem h, List.take_succ_cons]
  · rw [if_neg (by omega), List.getElem?_eq_none (by omega)]

/-- A successful `memRead` gives as many bytes as were asked for. -/
theorem memRead_length {sp : ByteSpace} {i n : Nat} {bs : List Byte} (h : memRead sp i n = .ok bs) :
    bs.length = n := by
  have readN_length : ∀ (m : Memory) (n i : Nat) (bs : List Byte), m.readN i n = some bs → bs.length = n := by
    intro m n
    induction n with
    | zero => intro i bs h; simp [Memory.readN] at h; simp [← h]
    | succ n ih =>
      intro i bs h
      unfold Memory.readN at h
      split at h
      · rename_i b bs' _ hr
        cases h
        simp [ih _ _ hr]
      · cases h
  unfold memRead ByteSpace.read at h
  split at h
  · cases h
    rename_i hr
    split at hr
    · exact readN_length _ _ _ _ hr
    · cases hr
  · cases h

end Sys2Proof.Machine
end

