-- ==== Sys2Proof/Laws/State.lean ====
section
/-! SUPPORT. One lemma per field per update of the state. -/

namespace Sys2Proof.Machine

/-! ### The mark -/

@[simp] theorem State.markRefused_params (s : State) : (s.markRefused).params = s.params := rfl
@[simp] theorem State.markRefused_inputs (s : State) : (s.markRefused).inputs = s.inputs := rfl
@[simp] theorem State.markRefused_phase (s : State) : (s.markRefused).phase = s.phase := rfl
@[simp] theorem State.markRefused_cmdLatched (s : State) : (s.markRefused).cmdLatched = s.cmdLatched := rfl
@[simp] theorem State.markRefused_prev (s : State) : (s.markRefused).prev = s.prev := rfl
@[simp] theorem State.markRefused_capturing (s : State) : (s.markRefused).capturing = s.capturing := rfl
@[simp] theorem State.markRefused_syncCount (s : State) : (s.markRefused).syncCount = s.syncCount := rfl
@[simp] theorem State.markRefused_responseObserved (s : State) : (s.markRefused).responseObserved = s.responseObserved := rfl
@[simp] theorem State.markRefused_rxb (s : State) : (s.markRefused).rxb = s.rxb := rfl
@[simp] theorem State.markRefused_rxOverflow (s : State) : (s.markRefused).rxOverflow = s.rxOverflow := rfl
@[simp] theorem State.markRefused_cap (s : State) : (s.markRefused).cap = s.cap := rfl
@[simp] theorem State.markRefused_capOverflow (s : State) : (s.markRefused).capOverflow = s.capOverflow := rfl
@[simp] theorem State.markRefused_rxs (s : State) : (s.markRefused).rxs = s.rxs := rfl
@[simp] theorem State.markRefused_caps (s : State) : (s.markRefused).caps = s.caps := rfl
@[simp] theorem State.markRefused_syncCountS (s : State) : (s.markRefused).syncCountS = s.syncCountS := rfl
@[simp] theorem State.markRefused_capOverflowS (s : State) : (s.markRefused).capOverflowS = s.capOverflowS := rfl
@[simp] theorem State.markRefused_resCode (s : State) : (s.markRefused).resCode = s.resCode := rfl
@[simp] theorem State.markRefused_cfg (s : State) : (s.markRefused).cfg = s.cfg := rfl
@[simp] theorem State.markRefused_live (s : State) : (s.markRefused).live = s.live := rfl
@[simp] theorem State.markRefused_trailerMismatch (s : State) : (s.markRefused).trailerMismatch = s.trailerMismatch := rfl
@[simp] theorem State.markRefused_anCode (s : State) : (s.markRefused).anCode = s.anCode := rfl
@[simp] theorem State.markRefused_analog (s : State) : (s.markRefused).analog = s.analog := rfl
@[simp] theorem State.markRefused_txLog (s : State) : (s.markRefused).txLog = s.txLog := rfl
@[simp] theorem State.markRefused_refused (s : State) : (s.markRefused).refused = true := rfl

/-! ### The transmit port -/

@[simp] theorem State.emit_params (s : State) (bs : List Byte) : (s.emit bs).params = s.params := rfl
@[simp] theorem State.emit_inputs (s : State) (bs : List Byte) : (s.emit bs).inputs = s.inputs := rfl
@[simp] theorem State.emit_phase (s : State) (bs : List Byte) : (s.emit bs).phase = s.phase := rfl
@[simp] theorem State.emit_cmdLatched (s : State) (bs : List Byte) : (s.emit bs).cmdLatched = s.cmdLatched := rfl
@[simp] theorem State.emit_prev (s : State) (bs : List Byte) : (s.emit bs).prev = s.prev := rfl
@[simp] theorem State.emit_capturing (s : State) (bs : List Byte) : (s.emit bs).capturing = s.capturing := rfl
@[simp] theorem State.emit_syncCount (s : State) (bs : List Byte) : (s.emit bs).syncCount = s.syncCount := rfl
@[simp] theorem State.emit_responseObserved (s : State) (bs : List Byte) : (s.emit bs).responseObserved = s.responseObserved := rfl
@[simp] theorem State.emit_rxb (s : State) (bs : List Byte) : (s.emit bs).rxb = s.rxb := rfl
@[simp] theorem State.emit_rxOverflow (s : State) (bs : List Byte) : (s.emit bs).rxOverflow = s.rxOverflow := rfl
@[simp] theorem State.emit_cap (s : State) (bs : List Byte) : (s.emit bs).cap = s.cap := rfl
@[simp] theorem State.emit_capOverflow (s : State) (bs : List Byte) : (s.emit bs).capOverflow = s.capOverflow := rfl
@[simp] theorem State.emit_rxs (s : State) (bs : List Byte) : (s.emit bs).rxs = s.rxs := rfl
@[simp] theorem State.emit_caps (s : State) (bs : List Byte) : (s.emit bs).caps = s.caps := rfl
@[simp] theorem State.emit_syncCountS (s : State) (bs : List Byte) : (s.emit bs).syncCountS = s.syncCountS := rfl
@[simp] theorem State.emit_capOverflowS (s : State) (bs : List Byte) : (s.emit bs).capOverflowS = s.capOverflowS := rfl
@[simp] theorem State.emit_resCode (s : State) (bs : List Byte) : (s.emit bs).resCode = s.resCode := rfl
@[simp] theorem State.emit_cfg (s : State) (bs : List Byte) : (s.emit bs).cfg = s.cfg := rfl
@[simp] theorem State.emit_live (s : State) (bs : List Byte) : (s.emit bs).live = s.live := rfl
@[simp] theorem State.emit_trailerMismatch (s : State) (bs : List Byte) : (s.emit bs).trailerMismatch = s.trailerMismatch := rfl
@[simp] theorem State.emit_anCode (s : State) (bs : List Byte) : (s.emit bs).anCode = s.anCode := rfl
@[simp] theorem State.emit_analog (s : State) (bs : List Byte) : (s.emit bs).analog = s.analog := rfl
@[simp] theorem State.emit_txLog (s : State) (bs : List Byte) : (s.emit bs).txLog = s.txLog ++ [bs] := rfl
@[simp] theorem State.emit_refused (s : State) (bs : List Byte) : (s.emit bs).refused = s.refused := rfl

/-! ### The snapshot -/

@[simp] theorem State.snapshot_params (s : State) : (s.snapshot).params = s.params := rfl
@[simp] theorem State.snapshot_inputs (s : State) : (s.snapshot).inputs = s.inputs := rfl
@[simp] theorem State.snapshot_phase (s : State) : (s.snapshot).phase = s.phase := rfl
@[simp] theorem State.snapshot_cmdLatched (s : State) : (s.snapshot).cmdLatched = s.cmdLatched := rfl
@[simp] theorem State.snapshot_prev (s : State) : (s.snapshot).prev = s.prev := rfl
@[simp] theorem State.snapshot_capturing (s : State) : (s.snapshot).capturing = s.capturing := rfl
@[simp] theorem State.snapshot_syncCount (s : State) : (s.snapshot).syncCount = s.syncCount := rfl
@[simp] theorem State.snapshot_responseObserved (s : State) : (s.snapshot).responseObserved = s.responseObserved := rfl
@[simp] theorem State.snapshot_rxb (s : State) : (s.snapshot).rxb = s.rxb := rfl
@[simp] theorem State.snapshot_rxOverflow (s : State) : (s.snapshot).rxOverflow = s.rxOverflow := rfl
@[simp] theorem State.snapshot_cap (s : State) : (s.snapshot).cap = s.cap := rfl
@[simp] theorem State.snapshot_capOverflow (s : State) : (s.snapshot).capOverflow = s.capOverflow := rfl
@[simp] theorem State.snapshot_rxs (s : State) : (s.snapshot).rxs = s.rxb := rfl
@[simp] theorem State.snapshot_caps (s : State) : (s.snapshot).caps = s.cap := rfl
@[simp] theorem State.snapshot_syncCountS (s : State) : (s.snapshot).syncCountS = s.syncCount := rfl
@[simp] theorem State.snapshot_capOverflowS (s : State) : (s.snapshot).capOverflowS = s.capOverflow := rfl
@[simp] theorem State.snapshot_resCode (s : State) : (s.snapshot).resCode = s.resCode := rfl
@[simp] theorem State.snapshot_cfg (s : State) : (s.snapshot).cfg = s.cfg := rfl
@[simp] theorem State.snapshot_live (s : State) : (s.snapshot).live = s.live := rfl
@[simp] theorem State.snapshot_trailerMismatch (s : State) : (s.snapshot).trailerMismatch = s.trailerMismatch := rfl
@[simp] theorem State.snapshot_anCode (s : State) : (s.snapshot).anCode = s.anCode := rfl
@[simp] theorem State.snapshot_analog (s : State) : (s.snapshot).analog = s.analog := rfl
@[simp] theorem State.snapshot_txLog (s : State) : (s.snapshot).txLog = s.txLog := rfl
@[simp] theorem State.snapshot_refused (s : State) : (s.snapshot).refused = s.refused := rfl

/-! ### Clearing the records -/

@[simp] theorem State.clearRecords_params (s : State) : (s.clearRecords).params = s.params := rfl
@[simp] theorem State.clearRecords_inputs (s : State) : (s.clearRecords).inputs = s.inputs := rfl
@[simp] theorem State.clearRecords_phase (s : State) : (s.clearRecords).phase = s.phase := rfl
@[simp] theorem State.clearRecords_cmdLatched (s : State) : (s.clearRecords).cmdLatched = s.cmdLatched := rfl
@[simp] theorem State.clearRecords_prev (s : State) : (s.clearRecords).prev = s.prev := rfl
@[simp] theorem State.clearRecords_capturing (s : State) : (s.clearRecords).capturing = s.capturing := rfl
@[simp] theorem State.clearRecords_syncCount (s : State) : (s.clearRecords).syncCount = s.syncCount := rfl
@[simp] theorem State.clearRecords_responseObserved (s : State) : (s.clearRecords).responseObserved = s.responseObserved := rfl
@[simp] theorem State.clearRecords_rxb (s : State) : (s.clearRecords).rxb = s.rxb := rfl
@[simp] theorem State.clearRecords_rxOverflow (s : State) : (s.clearRecords).rxOverflow = s.rxOverflow := rfl
@[simp] theorem State.clearRecords_cap (s : State) : (s.clearRecords).cap = s.cap := rfl
@[simp] theorem State.clearRecords_capOverflow (s : State) : (s.clearRecords).capOverflow = s.capOverflow := rfl
@[simp] theorem State.clearRecords_rxs (s : State) : (s.clearRecords).rxs = s.rxs := rfl
@[simp] theorem State.clearRecords_caps (s : State) : (s.clearRecords).caps = s.caps := rfl
@[simp] theorem State.clearRecords_syncCountS (s : State) : (s.clearRecords).syncCountS = s.syncCountS := rfl
@[simp] theorem State.clearRecords_capOverflowS (s : State) : (s.clearRecords).capOverflowS = s.capOverflowS := rfl
@[simp] theorem State.clearRecords_resCode (s : State) : (s.clearRecords).resCode = s.resCode := rfl
@[simp] theorem State.clearRecords_cfg (s : State) : (s.clearRecords).cfg = none := rfl
@[simp] theorem State.clearRecords_live (s : State) : (s.clearRecords).live = none := rfl
@[simp] theorem State.clearRecords_trailerMismatch (s : State) : (s.clearRecords).trailerMismatch = false := rfl
@[simp] theorem State.clearRecords_anCode (s : State) : (s.clearRecords).anCode = s.anCode := rfl
@[simp] theorem State.clearRecords_analog (s : State) : (s.clearRecords).analog = s.analog := rfl
@[simp] theorem State.clearRecords_txLog (s : State) : (s.clearRecords).txLog = s.txLog := rfl
@[simp] theorem State.clearRecords_refused (s : State) : (s.clearRecords).refused = s.refused := rfl

/-! ### The previous byte -/

@[simp] theorem State.recordPrev_params (s : State) (b : Byte) : (s.recordPrev b).params = s.params := rfl
@[simp] theorem State.recordPrev_inputs (s : State) (b : Byte) : (s.recordPrev b).inputs = s.inputs := rfl
@[simp] theorem State.recordPrev_phase (s : State) (b : Byte) : (s.recordPrev b).phase = s.phase := rfl
@[simp] theorem State.recordPrev_cmdLatched (s : State) (b : Byte) : (s.recordPrev b).cmdLatched = s.cmdLatched := rfl
@[simp] theorem State.recordPrev_prev (s : State) (b : Byte) : (s.recordPrev b).prev = b := rfl
@[simp] theorem State.recordPrev_capturing (s : State) (b : Byte) : (s.recordPrev b).capturing = s.capturing := rfl
@[simp] theorem State.recordPrev_syncCount (s : State) (b : Byte) : (s.recordPrev b).syncCount = s.syncCount := rfl
@[simp] theorem State.recordPrev_responseObserved (s : State) (b : Byte) : (s.recordPrev b).responseObserved = s.responseObserved := rfl
@[simp] theorem State.recordPrev_rxb (s : State) (b : Byte) : (s.recordPrev b).rxb = s.rxb := rfl
@[simp] theorem State.recordPrev_rxOverflow (s : State) (b : Byte) : (s.recordPrev b).rxOverflow = s.rxOverflow := rfl
@[simp] theorem State.recordPrev_cap (s : State) (b : Byte) : (s.recordPrev b).cap = s.cap := rfl
@[simp] theorem State.recordPrev_capOverflow (s : State) (b : Byte) : (s.recordPrev b).capOverflow = s.capOverflow := rfl
@[simp] theorem State.recordPrev_rxs (s : State) (b : Byte) : (s.recordPrev b).rxs = s.rxs := rfl
@[simp] theorem State.recordPrev_caps (s : State) (b : Byte) : (s.recordPrev b).caps = s.caps := rfl
@[simp] theorem State.recordPrev_syncCountS (s : State) (b : Byte) : (s.recordPrev b).syncCountS = s.syncCountS := rfl
@[simp] theorem State.recordPrev_capOverflowS (s : State) (b : Byte) : (s.recordPrev b).capOverflowS = s.capOverflowS := rfl
@[simp] theorem State.recordPrev_resCode (s : State) (b : Byte) : (s.recordPrev b).resCode = s.resCode := rfl
@[simp] theorem State.recordPrev_cfg (s : State) (b : Byte) : (s.recordPrev b).cfg = s.cfg := rfl
@[simp] theorem State.recordPrev_live (s : State) (b : Byte) : (s.recordPrev b).live = s.live := rfl
@[simp] theorem State.recordPrev_trailerMismatch (s : State) (b : Byte) : (s.recordPrev b).trailerMismatch = s.trailerMismatch := rfl
@[simp] theorem State.recordPrev_anCode (s : State) (b : Byte) : (s.recordPrev b).anCode = s.anCode := rfl
@[simp] theorem State.recordPrev_analog (s : State) (b : Byte) : (s.recordPrev b).analog = s.analog := rfl
@[simp] theorem State.recordPrev_txLog (s : State) (b : Byte) : (s.recordPrev b).txLog = s.txLog := rfl
@[simp] theorem State.recordPrev_refused (s : State) (b : Byte) : (s.recordPrev b).refused = s.refused := rfl

/-! ### The response flag -/

@[simp] theorem State.observeResponse_params (s : State) : (s.observeResponse).params = s.params := rfl
@[simp] theorem State.observeResponse_inputs (s : State) : (s.observeResponse).inputs = s.inputs := rfl
@[simp] theorem State.observeResponse_phase (s : State) : (s.observeResponse).phase = s.phase := rfl
@[simp] theorem State.observeResponse_cmdLatched (s : State) : (s.observeResponse).cmdLatched = s.cmdLatched := rfl
@[simp] theorem State.observeResponse_prev (s : State) : (s.observeResponse).prev = s.prev := rfl
@[simp] theorem State.observeResponse_capturing (s : State) : (s.observeResponse).capturing = s.capturing := rfl
@[simp] theorem State.observeResponse_syncCount (s : State) : (s.observeResponse).syncCount = s.syncCount := rfl
@[simp] theorem State.observeResponse_responseObserved (s : State) : (s.observeResponse).responseObserved = true := rfl
@[simp] theorem State.observeResponse_rxb (s : State) : (s.observeResponse).rxb = s.rxb := rfl
@[simp] theorem State.observeResponse_rxOverflow (s : State) : (s.observeResponse).rxOverflow = s.rxOverflow := rfl
@[simp] theorem State.observeResponse_cap (s : State) : (s.observeResponse).cap = s.cap := rfl
@[simp] theorem State.observeResponse_capOverflow (s : State) : (s.observeResponse).capOverflow = s.capOverflow := rfl
@[simp] theorem State.observeResponse_rxs (s : State) : (s.observeResponse).rxs = s.rxs := rfl
@[simp] theorem State.observeResponse_caps (s : State) : (s.observeResponse).caps = s.caps := rfl
@[simp] theorem State.observeResponse_syncCountS (s : State) : (s.observeResponse).syncCountS = s.syncCountS := rfl
@[simp] theorem State.observeResponse_capOverflowS (s : State) : (s.observeResponse).capOverflowS = s.capOverflowS := rfl
@[simp] theorem State.observeResponse_resCode (s : State) : (s.observeResponse).resCode = s.resCode := rfl
@[simp] theorem State.observeResponse_cfg (s : State) : (s.observeResponse).cfg = s.cfg := rfl
@[simp] theorem State.observeResponse_live (s : State) : (s.observeResponse).live = s.live := rfl
@[simp] theorem State.observeResponse_trailerMismatch (s : State) : (s.observeResponse).trailerMismatch = s.trailerMismatch := rfl
@[simp] theorem State.observeResponse_anCode (s : State) : (s.observeResponse).anCode = s.anCode := rfl
@[simp] theorem State.observeResponse_analog (s : State) : (s.observeResponse).analog = s.analog := rfl
@[simp] theorem State.observeResponse_txLog (s : State) : (s.observeResponse).txLog = s.txLog := rfl
@[simp] theorem State.observeResponse_refused (s : State) : (s.observeResponse).refused = s.refused := rfl

/-! ### Taking an error -/

@[simp] theorem State.takeError_transportReadError_params (s : State) : (s.takeError .transportReadError).params = s.params := rfl
@[simp] theorem State.takeError_transportReadError_inputs (s : State) : (s.takeError .transportReadError).inputs = s.inputs := rfl
@[simp] theorem State.takeError_transportReadError_phase (s : State) : (s.takeError .transportReadError).phase = .fatal := rfl
@[simp] theorem State.takeError_transportReadError_cmdLatched (s : State) : (s.takeError .transportReadError).cmdLatched = s.cmdLatched := rfl
@[simp] theorem State.takeError_transportReadError_prev (s : State) : (s.takeError .transportReadError).prev = s.prev := rfl
@[simp] theorem State.takeError_transportReadError_capturing (s : State) : (s.takeError .transportReadError).capturing = s.capturing := rfl
@[simp] theorem State.takeError_transportReadError_syncCount (s : State) : (s.takeError .transportReadError).syncCount = s.syncCount := rfl
@[simp] theorem State.takeError_transportReadError_responseObserved (s : State) : (s.takeError .transportReadError).responseObserved = s.responseObserved := rfl
@[simp] theorem State.takeError_transportReadError_rxb (s : State) : (s.takeError .transportReadError).rxb = s.rxb := rfl
@[simp] theorem State.takeError_transportReadError_rxOverflow (s : State) : (s.takeError .transportReadError).rxOverflow = s.rxOverflow := rfl
@[simp] theorem State.takeError_transportReadError_cap (s : State) : (s.takeError .transportReadError).cap = s.cap := rfl
@[simp] theorem State.takeError_transportReadError_capOverflow (s : State) : (s.takeError .transportReadError).capOverflow = s.capOverflow := rfl
@[simp] theorem State.takeError_transportReadError_rxs (s : State) : (s.takeError .transportReadError).rxs = s.rxs := rfl
@[simp] theorem State.takeError_transportReadError_caps (s : State) : (s.takeError .transportReadError).caps = s.caps := rfl
@[simp] theorem State.takeError_transportReadError_syncCountS (s : State) : (s.takeError .transportReadError).syncCountS = s.syncCountS := rfl
@[simp] theorem State.takeError_transportReadError_capOverflowS (s : State) : (s.takeError .transportReadError).capOverflowS = s.capOverflowS := rfl
@[simp] theorem State.takeError_transportReadError_resCode (s : State) : (s.takeError .transportReadError).resCode = .transportReadError := rfl
@[simp] theorem State.takeError_transportReadError_cfg (s : State) : (s.takeError .transportReadError).cfg = none := rfl
@[simp] theorem State.takeError_transportReadError_live (s : State) : (s.takeError .transportReadError).live = none := rfl
@[simp] theorem State.takeError_transportReadError_trailerMismatch (s : State) : (s.takeError .transportReadError).trailerMismatch = false := rfl
@[simp] theorem State.takeError_transportReadError_anCode (s : State) : (s.takeError .transportReadError).anCode = .none := rfl
@[simp] theorem State.takeError_transportReadError_analog (s : State) : (s.takeError .transportReadError).analog = none := rfl
@[simp] theorem State.takeError_transportReadError_txLog (s : State) : (s.takeError .transportReadError).txLog = s.txLog := rfl
@[simp] theorem State.takeError_transportReadError_refused (s : State) : (s.takeError .transportReadError).refused = s.refused := rfl

@[simp] theorem State.takeError_noResponse_params (s : State) : (s.takeError .noResponse).params = s.params := rfl
@[simp] theorem State.takeError_noResponse_inputs (s : State) : (s.takeError .noResponse).inputs = s.inputs := rfl
@[simp] theorem State.takeError_noResponse_phase (s : State) : (s.takeError .noResponse).phase = s.phase := rfl
@[simp] theorem State.takeError_noResponse_cmdLatched (s : State) : (s.takeError .noResponse).cmdLatched = s.cmdLatched := rfl
@[simp] theorem State.takeError_noResponse_prev (s : State) : (s.takeError .noResponse).prev = s.prev := rfl
@[simp] theorem State.takeError_noResponse_capturing (s : State) : (s.takeError .noResponse).capturing = s.capturing := rfl
@[simp] theorem State.takeError_noResponse_syncCount (s : State) : (s.takeError .noResponse).syncCount = s.syncCount := rfl
@[simp] theorem State.takeError_noResponse_responseObserved (s : State) : (s.takeError .noResponse).responseObserved = s.responseObserved := rfl
@[simp] theorem State.takeError_noResponse_rxb (s : State) : (s.takeError .noResponse).rxb = s.rxb := rfl
@[simp] theorem State.takeError_noResponse_rxOverflow (s : State) : (s.takeError .noResponse).rxOverflow = s.rxOverflow := rfl
@[simp] theorem State.takeError_noResponse_cap (s : State) : (s.takeError .noResponse).cap = s.cap := rfl
@[simp] theorem State.takeError_noResponse_capOverflow (s : State) : (s.takeError .noResponse).capOverflow = s.capOverflow := rfl
@[simp] theorem State.takeError_noResponse_rxs (s : State) : (s.takeError .noResponse).rxs = s.rxs := rfl
@[simp] theorem State.takeError_noResponse_caps (s : State) : (s.takeError .noResponse).caps = s.caps := rfl
@[simp] theorem State.takeError_noResponse_syncCountS (s : State) : (s.takeError .noResponse).syncCountS = s.syncCountS := rfl
@[simp] theorem State.takeError_noResponse_capOverflowS (s : State) : (s.takeError .noResponse).capOverflowS = s.capOverflowS := rfl
@[simp] theorem State.takeError_noResponse_resCode (s : State) : (s.takeError .noResponse).resCode = .noResponse := rfl
@[simp] theorem State.takeError_noResponse_cfg (s : State) : (s.takeError .noResponse).cfg = none := rfl
@[simp] theorem State.takeError_noResponse_live (s : State) : (s.takeError .noResponse).live = none := rfl
@[simp] theorem State.takeError_noResponse_trailerMismatch (s : State) : (s.takeError .noResponse).trailerMismatch = s.trailerMismatch := rfl
@[simp] theorem State.takeError_noResponse_anCode (s : State) : (s.takeError .noResponse).anCode = s.anCode := rfl
@[simp] theorem State.takeError_noResponse_analog (s : State) : (s.takeError .noResponse).analog = s.analog := rfl
@[simp] theorem State.takeError_noResponse_txLog (s : State) : (s.takeError .noResponse).txLog = s.txLog := rfl
@[simp] theorem State.takeError_noResponse_refused (s : State) : (s.takeError .noResponse).refused = s.refused := rfl

@[simp] theorem State.takeError_malformedFrame_params (s : State) : (s.takeError .malformedFrame).params = s.params := rfl
@[simp] theorem State.takeError_malformedFrame_inputs (s : State) : (s.takeError .malformedFrame).inputs = s.inputs := rfl
@[simp] theorem State.takeError_malformedFrame_phase (s : State) : (s.takeError .malformedFrame).phase = s.phase := rfl
@[simp] theorem State.takeError_malformedFrame_cmdLatched (s : State) : (s.takeError .malformedFrame).cmdLatched = s.cmdLatched := rfl
@[simp] theorem State.takeError_malformedFrame_prev (s : State) : (s.takeError .malformedFrame).prev = s.prev := rfl
@[simp] theorem State.takeError_malformedFrame_capturing (s : State) : (s.takeError .malformedFrame).capturing = s.capturing := rfl
@[simp] theorem State.takeError_malformedFrame_syncCount (s : State) : (s.takeError .malformedFrame).syncCount = s.syncCount := rfl
@[simp] theorem State.takeError_malformedFrame_responseObserved (s : State) : (s.takeError .malformedFrame).responseObserved = s.responseObserved := rfl
@[simp] theorem State.takeError_malformedFrame_rxb (s : State) : (s.takeError .malformedFrame).rxb = s.rxb := rfl
@[simp] theorem State.takeError_malformedFrame_rxOverflow (s : State) : (s.takeError .malformedFrame).rxOverflow = s.rxOverflow := rfl
@[simp] theorem State.takeError_malformedFrame_cap (s : State) : (s.takeError .malformedFrame).cap = s.cap := rfl
@[simp] theorem State.takeError_malformedFrame_capOverflow (s : State) : (s.takeError .malformedFrame).capOverflow = s.capOverflow := rfl
@[simp] theorem State.takeError_malformedFrame_rxs (s : State) : (s.takeError .malformedFrame).rxs = s.rxs := rfl
@[simp] theorem State.takeError_malformedFrame_caps (s : State) : (s.takeError .malformedFrame).caps = s.caps := rfl
@[simp] theorem State.takeError_malformedFrame_syncCountS (s : State) : (s.takeError .malformedFrame).syncCountS = s.syncCountS := rfl
@[simp] theorem State.takeError_malformedFrame_capOverflowS (s : State) : (s.takeError .malformedFrame).capOverflowS = s.capOverflowS := rfl
@[simp] theorem State.takeError_malformedFrame_resCode (s : State) : (s.takeError .malformedFrame).resCode = .malformedFrame := rfl
@[simp] theorem State.takeError_malformedFrame_cfg (s : State) : (s.takeError .malformedFrame).cfg = none := rfl
@[simp] theorem State.takeError_malformedFrame_live (s : State) : (s.takeError .malformedFrame).live = none := rfl
@[simp] theorem State.takeError_malformedFrame_trailerMismatch (s : State) : (s.takeError .malformedFrame).trailerMismatch = s.trailerMismatch := rfl
@[simp] theorem State.takeError_malformedFrame_anCode (s : State) : (s.takeError .malformedFrame).anCode = s.anCode := rfl
@[simp] theorem State.takeError_malformedFrame_analog (s : State) : (s.takeError .malformedFrame).analog = s.analog := rfl
@[simp] theorem State.takeError_malformedFrame_txLog (s : State) : (s.takeError .malformedFrame).txLog = s.txLog := rfl
@[simp] theorem State.takeError_malformedFrame_refused (s : State) : (s.takeError .malformedFrame).refused = s.refused := rfl

@[simp] theorem State.takeError_unsupportedVersion_params (s : State) : (s.takeError .unsupportedVersion).params = s.params := rfl
@[simp] theorem State.takeError_unsupportedVersion_inputs (s : State) : (s.takeError .unsupportedVersion).inputs = s.inputs := rfl
@[simp] theorem State.takeError_unsupportedVersion_phase (s : State) : (s.takeError .unsupportedVersion).phase = s.phase := rfl
@[simp] theorem State.takeError_unsupportedVersion_cmdLatched (s : State) : (s.takeError .unsupportedVersion).cmdLatched = s.cmdLatched := rfl
@[simp] theorem State.takeError_unsupportedVersion_prev (s : State) : (s.takeError .unsupportedVersion).prev = s.prev := rfl
@[simp] theorem State.takeError_unsupportedVersion_capturing (s : State) : (s.takeError .unsupportedVersion).capturing = s.capturing := rfl
@[simp] theorem State.takeError_unsupportedVersion_syncCount (s : State) : (s.takeError .unsupportedVersion).syncCount = s.syncCount := rfl
@[simp] theorem State.takeError_unsupportedVersion_responseObserved (s : State) : (s.takeError .unsupportedVersion).responseObserved = s.responseObserved := rfl
@[simp] theorem State.takeError_unsupportedVersion_rxb (s : State) : (s.takeError .unsupportedVersion).rxb = s.rxb := rfl
@[simp] theorem State.takeError_unsupportedVersion_rxOverflow (s : State) : (s.takeError .unsupportedVersion).rxOverflow = s.rxOverflow := rfl
@[simp] theorem State.takeError_unsupportedVersion_cap (s : State) : (s.takeError .unsupportedVersion).cap = s.cap := rfl
@[simp] theorem State.takeError_unsupportedVersion_capOverflow (s : State) : (s.takeError .unsupportedVersion).capOverflow = s.capOverflow := rfl
@[simp] theorem State.takeError_unsupportedVersion_rxs (s : State) : (s.takeError .unsupportedVersion).rxs = s.rxs := rfl
@[simp] theorem State.takeError_unsupportedVersion_caps (s : State) : (s.takeError .unsupportedVersion).caps = s.caps := rfl
@[simp] theorem State.takeError_unsupportedVersion_syncCountS (s : State) : (s.takeError .unsupportedVersion).syncCountS = s.syncCountS := rfl
@[simp] theorem State.takeError_unsupportedVersion_capOverflowS (s : State) : (s.takeError .unsupportedVersion).capOverflowS = s.capOverflowS := rfl
@[simp] theorem State.takeError_unsupportedVersion_resCode (s : State) : (s.takeError .unsupportedVersion).resCode = .unsupportedVersion := rfl
@[simp] theorem State.takeError_unsupportedVersion_cfg (s : State) : (s.takeError .unsupportedVersion).cfg = s.cfg := rfl
@[simp] theorem State.takeError_unsupportedVersion_live (s : State) : (s.takeError .unsupportedVersion).live = none := rfl
@[simp] theorem State.takeError_unsupportedVersion_trailerMismatch (s : State) : (s.takeError .unsupportedVersion).trailerMismatch = s.trailerMismatch := rfl
@[simp] theorem State.takeError_unsupportedVersion_anCode (s : State) : (s.takeError .unsupportedVersion).anCode = s.anCode := rfl
@[simp] theorem State.takeError_unsupportedVersion_analog (s : State) : (s.takeError .unsupportedVersion).analog = s.analog := rfl
@[simp] theorem State.takeError_unsupportedVersion_txLog (s : State) : (s.takeError .unsupportedVersion).txLog = s.txLog := rfl
@[simp] theorem State.takeError_unsupportedVersion_refused (s : State) : (s.takeError .unsupportedVersion).refused = s.refused := rfl

@[simp] theorem State.takeError_insufficientCaptureData_params (s : State) : (s.takeError .insufficientCaptureData).params = s.params := rfl
@[simp] theorem State.takeError_insufficientCaptureData_inputs (s : State) : (s.takeError .insufficientCaptureData).inputs = s.inputs := rfl
@[simp] theorem State.takeError_insufficientCaptureData_phase (s : State) : (s.takeError .insufficientCaptureData).phase = s.phase := rfl
@[simp] theorem State.takeError_insufficientCaptureData_cmdLatched (s : State) : (s.takeError .insufficientCaptureData).cmdLatched = s.cmdLatched := rfl
@[simp] theorem State.takeError_insufficientCaptureData_prev (s : State) : (s.takeError .insufficientCaptureData).prev = s.prev := rfl
@[simp] theorem State.takeError_insufficientCaptureData_capturing (s : State) : (s.takeError .insufficientCaptureData).capturing = s.capturing := rfl
@[simp] theorem State.takeError_insufficientCaptureData_syncCount (s : State) : (s.takeError .insufficientCaptureData).syncCount = s.syncCount := rfl
@[simp] theorem State.takeError_insufficientCaptureData_responseObserved (s : State) : (s.takeError .insufficientCaptureData).responseObserved = s.responseObserved := rfl
@[simp] theorem State.takeError_insufficientCaptureData_rxb (s : State) : (s.takeError .insufficientCaptureData).rxb = s.rxb := rfl
@[simp] theorem State.takeError_insufficientCaptureData_rxOverflow (s : State) : (s.takeError .insufficientCaptureData).rxOverflow = s.rxOverflow := rfl
@[simp] theorem State.takeError_insufficientCaptureData_cap (s : State) : (s.takeError .insufficientCaptureData).cap = s.cap := rfl
@[simp] theorem State.takeError_insufficientCaptureData_capOverflow (s : State) : (s.takeError .insufficientCaptureData).capOverflow = s.capOverflow := rfl
@[simp] theorem State.takeError_insufficientCaptureData_rxs (s : State) : (s.takeError .insufficientCaptureData).rxs = s.rxs := rfl
@[simp] theorem State.takeError_insufficientCaptureData_caps (s : State) : (s.takeError .insufficientCaptureData).caps = s.caps := rfl
@[simp] theorem State.takeError_insufficientCaptureData_syncCountS (s : State) : (s.takeError .insufficientCaptureData).syncCountS = s.syncCountS := rfl
@[simp] theorem State.takeError_insufficientCaptureData_capOverflowS (s : State) : (s.takeError .insufficientCaptureData).capOverflowS = s.capOverflowS := rfl
@[simp] theorem State.takeError_insufficientCaptureData_resCode (s : State) : (s.takeError .insufficientCaptureData).resCode = s.resCode := rfl
@[simp] theorem State.takeError_insufficientCaptureData_cfg (s : State) : (s.takeError .insufficientCaptureData).cfg = s.cfg := rfl
@[simp] theorem State.takeError_insufficientCaptureData_live (s : State) : (s.takeError .insufficientCaptureData).live = s.live := rfl
@[simp] theorem State.takeError_insufficientCaptureData_trailerMismatch (s : State) : (s.takeError .insufficientCaptureData).trailerMismatch = s.trailerMismatch := rfl
@[simp] theorem State.takeError_insufficientCaptureData_anCode (s : State) : (s.takeError .insufficientCaptureData).anCode = .insufficientCaptureData := rfl
@[simp] theorem State.takeError_insufficientCaptureData_analog (s : State) : (s.takeError .insufficientCaptureData).analog = none := rfl
@[simp] theorem State.takeError_insufficientCaptureData_txLog (s : State) : (s.takeError .insufficientCaptureData).txLog = s.txLog := rfl
@[simp] theorem State.takeError_insufficientCaptureData_refused (s : State) : (s.takeError .insufficientCaptureData).refused = s.refused := rfl

/-! ### Reset -/

@[simp] theorem State.resetAll_params (s : State) : (s.resetAll).params = s.params := rfl
@[simp] theorem State.resetAll_inputs (s : State) : (s.resetAll).inputs = s.inputs := rfl
@[simp] theorem State.resetAll_phase (s : State) : (s.resetAll).phase = .idle := rfl
@[simp] theorem State.resetAll_cmdLatched (s : State) : (s.resetAll).cmdLatched = none := rfl
@[simp] theorem State.resetAll_prev (s : State) : (s.resetAll).prev = 0x00#8 := rfl
@[simp] theorem State.resetAll_capturing (s : State) : (s.resetAll).capturing = false := rfl
@[simp] theorem State.resetAll_syncCount (s : State) : (s.resetAll).syncCount = 0#2 := rfl
@[simp] theorem State.resetAll_responseObserved (s : State) : (s.resetAll).responseObserved = false := rfl
@[simp] theorem State.resetAll_rxb (s : State) : (s.resetAll).rxb = .empty := rfl
@[simp] theorem State.resetAll_rxOverflow (s : State) : (s.resetAll).rxOverflow = false := rfl
@[simp] theorem State.resetAll_cap (s : State) : (s.resetAll).cap = .empty := rfl
@[simp] theorem State.resetAll_capOverflow (s : State) : (s.resetAll).capOverflow = false := rfl
@[simp] theorem State.resetAll_rxs (s : State) : (s.resetAll).rxs = .empty := rfl
@[simp] theorem State.resetAll_caps (s : State) : (s.resetAll).caps = .empty := rfl
@[simp] theorem State.resetAll_syncCountS (s : State) : (s.resetAll).syncCountS = 0#2 := rfl
@[simp] theorem State.resetAll_capOverflowS (s : State) : (s.resetAll).capOverflowS = false := rfl
@[simp] theorem State.resetAll_resCode (s : State) : (s.resetAll).resCode = .none := rfl
@[simp] theorem State.resetAll_cfg (s : State) : (s.resetAll).cfg = none := rfl
@[simp] theorem State.resetAll_live (s : State) : (s.resetAll).live = none := rfl
@[simp] theorem State.resetAll_trailerMismatch (s : State) : (s.resetAll).trailerMismatch = false := rfl
@[simp] theorem State.resetAll_anCode (s : State) : (s.resetAll).anCode = .none := rfl
@[simp] theorem State.resetAll_analog (s : State) : (s.resetAll).analog = none := rfl
@[simp] theorem State.resetAll_txLog (s : State) : (s.resetAll).txLog = [] := rfl
@[simp] theorem State.resetAll_refused (s : State) : (s.resetAll).refused = s.refused := rfl

@[simp] theorem State.powerOn_params (p : Params) : (State.powerOn p).params = p := rfl
@[simp] theorem State.powerOn_inputs (p : Params) : (State.powerOn p).inputs = [] := rfl
@[simp] theorem State.powerOn_phase (p : Params) : (State.powerOn p).phase = .idle := rfl
@[simp] theorem State.powerOn_cmdLatched (p : Params) : (State.powerOn p).cmdLatched = none := rfl
@[simp] theorem State.powerOn_prev (p : Params) : (State.powerOn p).prev = 0x00#8 := rfl
@[simp] theorem State.powerOn_capturing (p : Params) : (State.powerOn p).capturing = false := rfl
@[simp] theorem State.powerOn_syncCount (p : Params) : (State.powerOn p).syncCount = 0#2 := rfl
@[simp] theorem State.powerOn_responseObserved (p : Params) : (State.powerOn p).responseObserved = false := rfl
@[simp] theorem State.powerOn_rxb (p : Params) : (State.powerOn p).rxb = .empty := rfl
@[simp] theorem State.powerOn_rxOverflow (p : Params) : (State.powerOn p).rxOverflow = false := rfl
@[simp] theorem State.powerOn_cap (p : Params) : (State.powerOn p).cap = .empty := rfl
@[simp] theorem State.powerOn_capOverflow (p : Params) : (State.powerOn p).capOverflow = false := rfl
@[simp] theorem State.powerOn_rxs (p : Params) : (State.powerOn p).rxs = .empty := rfl
@[simp] theorem State.powerOn_caps (p : Params) : (State.powerOn p).caps = .empty := rfl
@[simp] theorem State.powerOn_syncCountS (p : Params) : (State.powerOn p).syncCountS = 0#2 := rfl
@[simp] theorem State.powerOn_capOverflowS (p : Params) : (State.powerOn p).capOverflowS = false := rfl
@[simp] theorem State.powerOn_resCode (p : Params) : (State.powerOn p).resCode = .none := rfl
@[simp] theorem State.powerOn_cfg (p : Params) : (State.powerOn p).cfg = none := rfl
@[simp] theorem State.powerOn_live (p : Params) : (State.powerOn p).live = none := rfl
@[simp] theorem State.powerOn_trailerMismatch (p : Params) : (State.powerOn p).trailerMismatch = false := rfl
@[simp] theorem State.powerOn_anCode (p : Params) : (State.powerOn p).anCode = .none := rfl
@[simp] theorem State.powerOn_analog (p : Params) : (State.powerOn p).analog = none := rfl
@[simp] theorem State.powerOn_txLog (p : Params) : (State.powerOn p).txLog = [] := rfl
@[simp] theorem State.powerOn_refused (p : Params) : (State.powerOn p).refused = false := rfl

/-! ### The queue of events -/

@[simp] theorem State.deliver_params (s : State) (ws : List EventWord) : (s.deliver ws).params = s.params := rfl
@[simp] theorem State.deliver_inputs (s : State) (ws : List EventWord) : (s.deliver ws).inputs = s.inputs ++ ws := rfl
@[simp] theorem State.deliver_phase (s : State) (ws : List EventWord) : (s.deliver ws).phase = s.phase := rfl
@[simp] theorem State.deliver_cmdLatched (s : State) (ws : List EventWord) : (s.deliver ws).cmdLatched = s.cmdLatched := rfl
@[simp] theorem State.deliver_prev (s : State) (ws : List EventWord) : (s.deliver ws).prev = s.prev := rfl
@[simp] theorem State.deliver_capturing (s : State) (ws : List EventWord) : (s.deliver ws).capturing = s.capturing := rfl
@[simp] theorem State.deliver_syncCount (s : State) (ws : List EventWord) : (s.deliver ws).syncCount = s.syncCount := rfl
@[simp] theorem State.deliver_responseObserved (s : State) (ws : List EventWord) : (s.deliver ws).responseObserved = s.responseObserved := rfl
@[simp] theorem State.deliver_rxb (s : State) (ws : List EventWord) : (s.deliver ws).rxb = s.rxb := rfl
@[simp] theorem State.deliver_rxOverflow (s : State) (ws : List EventWord) : (s.deliver ws).rxOverflow = s.rxOverflow := rfl
@[simp] theorem State.deliver_cap (s : State) (ws : List EventWord) : (s.deliver ws).cap = s.cap := rfl
@[simp] theorem State.deliver_capOverflow (s : State) (ws : List EventWord) : (s.deliver ws).capOverflow = s.capOverflow := rfl
@[simp] theorem State.deliver_rxs (s : State) (ws : List EventWord) : (s.deliver ws).rxs = s.rxs := rfl
@[simp] theorem State.deliver_caps (s : State) (ws : List EventWord) : (s.deliver ws).caps = s.caps := rfl
@[simp] theorem State.deliver_syncCountS (s : State) (ws : List EventWord) : (s.deliver ws).syncCountS = s.syncCountS := rfl
@[simp] theorem State.deliver_capOverflowS (s : State) (ws : List EventWord) : (s.deliver ws).capOverflowS = s.capOverflowS := rfl
@[simp] theorem State.deliver_resCode (s : State) (ws : List EventWord) : (s.deliver ws).resCode = s.resCode := rfl
@[simp] theorem State.deliver_cfg (s : State) (ws : List EventWord) : (s.deliver ws).cfg = s.cfg := rfl
@[simp] theorem State.deliver_live (s : State) (ws : List EventWord) : (s.deliver ws).live = s.live := rfl
@[simp] theorem State.deliver_trailerMismatch (s : State) (ws : List EventWord) : (s.deliver ws).trailerMismatch = s.trailerMismatch := rfl
@[simp] theorem State.deliver_anCode (s : State) (ws : List EventWord) : (s.deliver ws).anCode = s.anCode := rfl
@[simp] theorem State.deliver_analog (s : State) (ws : List EventWord) : (s.deliver ws).analog = s.analog := rfl
@[simp] theorem State.deliver_txLog (s : State) (ws : List EventWord) : (s.deliver ws).txLog = s.txLog := rfl
@[simp] theorem State.deliver_refused (s : State) (ws : List EventWord) : (s.deliver ws).refused = s.refused := rfl

@[simp] theorem State.putFirst_params (s : State) (w : EventWord) : (s.putFirst w).params = s.params := rfl
@[simp] theorem State.putFirst_inputs (s : State) (w : EventWord) : (s.putFirst w).inputs = w :: s.inputs := rfl
@[simp] theorem State.putFirst_phase (s : State) (w : EventWord) : (s.putFirst w).phase = s.phase := rfl
@[simp] theorem State.putFirst_cmdLatched (s : State) (w : EventWord) : (s.putFirst w).cmdLatched = s.cmdLatched := rfl
@[simp] theorem State.putFirst_prev (s : State) (w : EventWord) : (s.putFirst w).prev = s.prev := rfl
@[simp] theorem State.putFirst_capturing (s : State) (w : EventWord) : (s.putFirst w).capturing = s.capturing := rfl
@[simp] theorem State.putFirst_syncCount (s : State) (w : EventWord) : (s.putFirst w).syncCount = s.syncCount := rfl
@[simp] theorem State.putFirst_responseObserved (s : State) (w : EventWord) : (s.putFirst w).responseObserved = s.responseObserved := rfl
@[simp] theorem State.putFirst_rxb (s : State) (w : EventWord) : (s.putFirst w).rxb = s.rxb := rfl
@[simp] theorem State.putFirst_rxOverflow (s : State) (w : EventWord) : (s.putFirst w).rxOverflow = s.rxOverflow := rfl
@[simp] theorem State.putFirst_cap (s : State) (w : EventWord) : (s.putFirst w).cap = s.cap := rfl
@[simp] theorem State.putFirst_capOverflow (s : State) (w : EventWord) : (s.putFirst w).capOverflow = s.capOverflow := rfl
@[simp] theorem State.putFirst_rxs (s : State) (w : EventWord) : (s.putFirst w).rxs = s.rxs := rfl
@[simp] theorem State.putFirst_caps (s : State) (w : EventWord) : (s.putFirst w).caps = s.caps := rfl
@[simp] theorem State.putFirst_syncCountS (s : State) (w : EventWord) : (s.putFirst w).syncCountS = s.syncCountS := rfl
@[simp] theorem State.putFirst_capOverflowS (s : State) (w : EventWord) : (s.putFirst w).capOverflowS = s.capOverflowS := rfl
@[simp] theorem State.putFirst_resCode (s : State) (w : EventWord) : (s.putFirst w).resCode = s.resCode := rfl
@[simp] theorem State.putFirst_cfg (s : State) (w : EventWord) : (s.putFirst w).cfg = s.cfg := rfl
@[simp] theorem State.putFirst_live (s : State) (w : EventWord) : (s.putFirst w).live = s.live := rfl
@[simp] theorem State.putFirst_trailerMismatch (s : State) (w : EventWord) : (s.putFirst w).trailerMismatch = s.trailerMismatch := rfl
@[simp] theorem State.putFirst_anCode (s : State) (w : EventWord) : (s.putFirst w).anCode = s.anCode := rfl
@[simp] theorem State.putFirst_analog (s : State) (w : EventWord) : (s.putFirst w).analog = s.analog := rfl
@[simp] theorem State.putFirst_txLog (s : State) (w : EventWord) : (s.putFirst w).txLog = s.txLog := rfl
@[simp] theorem State.putFirst_refused (s : State) (w : EventWord) : (s.putFirst w).refused = s.refused := rfl

/-! ### The conditional steps of RX_BYTE: the registers each leaves alone -/

@[simp] theorem State.detectMarker_params (s : State) (b : Byte) : (s.detectMarker b).params = s.params := by
  unfold State.detectMarker; split <;> rfl
@[simp] theorem State.detectMarker_inputs (s : State) (b : Byte) : (s.detectMarker b).inputs = s.inputs := by
  unfold State.detectMarker; split <;> rfl
@[simp] theorem State.detectMarker_phase (s : State) (b : Byte) : (s.detectMarker b).phase = s.phase := by
  unfold State.detectMarker; split <;> rfl
@[simp] theorem State.detectMarker_cmdLatched (s : State) (b : Byte) : (s.detectMarker b).cmdLatched = s.cmdLatched := by
  unfold State.detectMarker; split <;> rfl
@[simp] theorem State.detectMarker_prev (s : State) (b : Byte) : (s.detectMarker b).prev = s.prev := by
  unfold State.detectMarker; split <;> rfl
@[simp] theorem State.detectMarker_responseObserved (s : State) (b : Byte) : (s.detectMarker b).responseObserved = s.responseObserved := by
  unfold State.detectMarker; split <;> rfl
@[simp] theorem State.detectMarker_rxb (s : State) (b : Byte) : (s.detectMarker b).rxb = s.rxb := by
  unfold State.detectMarker; split <;> rfl
@[simp] theorem State.detectMarker_rxOverflow (s : State) (b : Byte) : (s.detectMarker b).rxOverflow = s.rxOverflow := by
  unfold State.detectMarker; split <;> rfl
@[simp] theorem State.detectMarker_cap (s : State) (b : Byte) : (s.detectMarker b).cap = s.cap := by
  unfold State.detectMarker; split <;> rfl
@[simp] theorem State.detectMarker_capOverflow (s : State) (b : Byte) : (s.detectMarker b).capOverflow = s.capOverflow := by
  unfold State.detectMarker; split <;> rfl
@[simp] theorem State.detectMarker_rxs (s : State) (b : Byte) : (s.detectMarker b).rxs = s.rxs := by
  unfold State.detectMarker; split <;> rfl
@[simp] theorem State.detectMarker_caps (s : State) (b : Byte) : (s.detectMarker b).caps = s.caps := by
  unfold State.detectMarker; split <;> rfl
@[simp] theorem State.detectMarker_syncCountS (s : State) (b : Byte) : (s.detectMarker b).syncCountS = s.syncCountS := by
  unfold State.detectMarker; split <;> rfl
@[simp] theorem State.detectMarker_capOverflowS (s : State) (b : Byte) : (s.detectMarker b).capOverflowS = s.capOverflowS := by
  unfold State.detectMarker; split <;> rfl
@[simp] theorem State.detectMarker_resCode (s : State) (b : Byte) : (s.detectMarker b).resCode = s.resCode := by
  unfold State.detectMarker; split <;> rfl
@[simp] theorem State.detectMarker_cfg (s : State) (b : Byte) : (s.detectMarker b).cfg = s.cfg := by
  unfold State.detectMarker; split <;> rfl
@[simp] theorem State.detectMarker_live (s : State) (b : Byte) : (s.detectMarker b).live = s.live := by
  unfold State.detectMarker; split <;> rfl
@[simp] theorem State.detectMarker_trailerMismatch (s : State) (b : Byte) : (s.detectMarker b).trailerMismatch = s.trailerMismatch := by
  unfold State.detectMarker; split <;> rfl
@[simp] theorem State.detectMarker_anCode (s : State) (b : Byte) : (s.detectMarker b).anCode = s.anCode := by
  unfold State.detectMarker; split <;> rfl
@[simp] theorem State.detectMarker_analog (s : State) (b : Byte) : (s.detectMarker b).analog = s.analog := by
  unfold State.detectMarker; split <;> rfl
@[simp] theorem State.detectMarker_txLog (s : State) (b : Byte) : (s.detectMarker b).txLog = s.txLog := by
  unfold State.detectMarker; split <;> rfl
@[simp] theorem State.detectMarker_refused (s : State) (b : Byte) : (s.detectMarker b).refused = s.refused := by
  unfold State.detectMarker; split <;> rfl

@[simp] theorem State.captureByte_params (s : State) (b : Byte) : (s.captureByte b).params = s.params := by
  unfold State.captureByte; split <;> (try split) <;> rfl
@[simp] theorem State.captureByte_inputs (s : State) (b : Byte) : (s.captureByte b).inputs = s.inputs := by
  unfold State.captureByte; split <;> (try split) <;> rfl
@[simp] theorem State.captureByte_phase (s : State) (b : Byte) : (s.captureByte b).phase = s.phase := by
  unfold State.captureByte; split <;> (try split) <;> rfl
@[simp] theorem State.captureByte_cmdLatched (s : State) (b : Byte) : (s.captureByte b).cmdLatched = s.cmdLatched := by
  unfold State.captureByte; split <;> (try split) <;> rfl
@[simp] theorem State.captureByte_prev (s : State) (b : Byte) : (s.captureByte b).prev = s.prev := by
  unfold State.captureByte; split <;> (try split) <;> rfl
@[simp] theorem State.captureByte_capturing (s : State) (b : Byte) : (s.captureByte b).capturing = s.capturing := by
  unfold State.captureByte; split <;> (try split) <;> rfl
@[simp] theorem State.captureByte_syncCount (s : State) (b : Byte) : (s.captureByte b).syncCount = s.syncCount := by
  unfold State.captureByte; split <;> (try split) <;> rfl
@[simp] theorem State.captureByte_responseObserved (s : State) (b : Byte) : (s.captureByte b).responseObserved = s.responseObserved := by
  unfold State.captureByte; split <;> (try split) <;> rfl
@[simp] theorem State.captureByte_rxb (s : State) (b : Byte) : (s.captureByte b).rxb = s.rxb := by
  unfold State.captureByte; split <;> (try split) <;> rfl
@[simp] theorem State.captureByte_rxOverflow (s : State) (b : Byte) : (s.captureByte b).rxOverflow = s.rxOverflow := by
  unfold State.captureByte; split <;> (try split) <;> rfl
@[simp] theorem State.captureByte_rxs (s : State) (b : Byte) : (s.captureByte b).rxs = s.rxs := by
  unfold State.captureByte; split <;> (try split) <;> rfl
@[simp] theorem State.captureByte_caps (s : State) (b : Byte) : (s.captureByte b).caps = s.caps := by
  unfold State.captureByte; split <;> (try split) <;> rfl
@[simp] theorem State.captureByte_syncCountS (s : State) (b : Byte) : (s.captureByte b).syncCountS = s.syncCountS := by
  unfold State.captureByte; split <;> (try split) <;> rfl
@[simp] theorem State.captureByte_capOverflowS (s : State) (b : Byte) : (s.captureByte b).capOverflowS = s.capOverflowS := by
  unfold State.captureByte; split <;> (try split) <;> rfl
@[simp] theorem State.captureByte_resCode (s : State) (b : Byte) : (s.captureByte b).resCode = s.resCode := by
  unfold State.captureByte; split <;> (try split) <;> rfl
@[simp] theorem State.captureByte_cfg (s : State) (b : Byte) : (s.captureByte b).cfg = s.cfg := by
  unfold State.captureByte; split <;> (try split) <;> rfl
@[simp] theorem State.captureByte_live (s : State) (b : Byte) : (s.captureByte b).live = s.live := by
  unfold State.captureByte; split <;> (try split) <;> rfl
@[simp] theorem State.captureByte_trailerMismatch (s : State) (b : Byte) : (s.captureByte b).trailerMismatch = s.trailerMismatch := by
  unfold State.captureByte; split <;> (try split) <;> rfl
@[simp] theorem State.captureByte_anCode (s : State) (b : Byte) : (s.captureByte b).anCode = s.anCode := by
  unfold State.captureByte; split <;> (try split) <;> rfl
@[simp] theorem State.captureByte_analog (s : State) (b : Byte) : (s.captureByte b).analog = s.analog := by
  unfold State.captureByte; split <;> (try split) <;> rfl
@[simp] theorem State.captureByte_txLog (s : State) (b : Byte) : (s.captureByte b).txLog = s.txLog := by
  unfold State.captureByte; split <;> (try split) <;> rfl
@[simp] theorem State.captureByte_refused (s : State) (b : Byte) : (s.captureByte b).refused = s.refused := by
  unfold State.captureByte; split <;> (try split) <;> rfl

@[simp] theorem State.receiveByte_params (s : State) (b : Byte) : (s.receiveByte b).params = s.params := by
  unfold State.receiveByte; split <;> rfl
@[simp] theorem State.receiveByte_inputs (s : State) (b : Byte) : (s.receiveByte b).inputs = s.inputs := by
  unfold State.receiveByte; split <;> rfl
@[simp] theorem State.receiveByte_phase (s : State) (b : Byte) : (s.receiveByte b).phase = s.phase := by
  unfold State.receiveByte; split <;> rfl
@[simp] theorem State.receiveByte_cmdLatched (s : State) (b : Byte) : (s.receiveByte b).cmdLatched = s.cmdLatched := by
  unfold State.receiveByte; split <;> rfl
@[simp] theorem State.receiveByte_prev (s : State) (b : Byte) : (s.receiveByte b).prev = s.prev := by
  unfold State.receiveByte; split <;> rfl
@[simp] theorem State.receiveByte_capturing (s : State) (b : Byte) : (s.receiveByte b).capturing = s.capturing := by
  unfold State.receiveByte; split <;> rfl
@[simp] theorem State.receiveByte_syncCount (s : State) (b : Byte) : (s.receiveByte b).syncCount = s.syncCount := by
  unfold State.receiveByte; split <;> rfl
@[simp] theorem State.receiveByte_responseObserved (s : State) (b : Byte) : (s.receiveByte b).responseObserved = s.responseObserved := by
  unfold State.receiveByte; split <;> rfl
@[simp] theorem State.receiveByte_cap (s : State) (b : Byte) : (s.receiveByte b).cap = s.cap := by
  unfold State.receiveByte; split <;> rfl
@[simp] theorem State.receiveByte_capOverflow (s : State) (b : Byte) : (s.receiveByte b).capOverflow = s.capOverflow := by
  unfold State.receiveByte; split <;> rfl
@[simp] theorem State.receiveByte_rxs (s : State) (b : Byte) : (s.receiveByte b).rxs = s.rxs := by
  unfold State.receiveByte; split <;> rfl
@[simp] theorem State.receiveByte_caps (s : State) (b : Byte) : (s.receiveByte b).caps = s.caps := by
  unfold State.receiveByte; split <;> rfl
@[simp] theorem State.receiveByte_syncCountS (s : State) (b : Byte) : (s.receiveByte b).syncCountS = s.syncCountS := by
  unfold State.receiveByte; split <;> rfl
@[simp] theorem State.receiveByte_capOverflowS (s : State) (b : Byte) : (s.receiveByte b).capOverflowS = s.capOverflowS := by
  unfold State.receiveByte; split <;> rfl
@[simp] theorem State.receiveByte_resCode (s : State) (b : Byte) : (s.receiveByte b).resCode = s.resCode := by
  unfold State.receiveByte; split <;> rfl
@[simp] theorem State.receiveByte_cfg (s : State) (b : Byte) : (s.receiveByte b).cfg = s.cfg := by
  unfold State.receiveByte; split <;> rfl
@[simp] theorem State.receiveByte_live (s : State) (b : Byte) : (s.receiveByte b).live = s.live := by
  unfold State.receiveByte; split <;> rfl
@[simp] theorem State.receiveByte_trailerMismatch (s : State) (b : Byte) : (s.receiveByte b).trailerMismatch = s.trailerMismatch := by
  unfold State.receiveByte; split <;> rfl
@[simp] theorem State.receiveByte_anCode (s : State) (b : Byte) : (s.receiveByte b).anCode = s.anCode := by
  unfold State.receiveByte; split <;> rfl
@[simp] theorem State.receiveByte_analog (s : State) (b : Byte) : (s.receiveByte b).analog = s.analog := by
  unfold State.receiveByte; split <;> rfl
@[simp] theorem State.receiveByte_txLog (s : State) (b : Byte) : (s.receiveByte b).txLog = s.txLog := by
  unfold State.receiveByte; split <;> rfl
@[simp] theorem State.receiveByte_refused (s : State) (b : Byte) : (s.receiveByte b).refused = s.refused := by
  unfold State.receiveByte; split <;> rfl

end Sys2Proof.Machine
end

