-- ==== Sys2Proof/Laws/Decoder.lean ====
section
/-! SUPPORT. What the parts of WAIT_DONE can do (42_record_decoder.md R140 to R150, 43_analog_datapath.md R170): when
each succeeds, and that it writes its result registers alone. -/

namespace Sys2Proof.Machine

theorem FieldType.size_pos (ty : FieldType) : 0 < ty.size := by cases ty <;> decide

/-- As many bytes as a type has always make a field of that type (R80). -/
theorem assembleField_ok (order : RecOrder) (ty : FieldType) (bs : List Byte) (h : bs.length = ty.size) :
    ∃ v, assembleField order ty bs = some v ∧ v.hasType ty = true := by
  cases ty <;> simp only [FieldType.size] at h
  · obtain ⟨b0, b1, rfl⟩ := List.length_eq_two.mp h
    exact ⟨_, rfl, rfl⟩
  · match bs, h with
    | [b0, b1, b2, b3], _ => exact ⟨_, rfl, rfl⟩
  · match bs, h with
    | [b0, b1, b2, b3], _ => exact ⟨_, rfl, rfl⟩
  · exact ⟨.tag8 bs, by simp [assembleField, h], by simp [FieldValue.hasType, h]⟩
  · exact ⟨.tag10 bs, by simp [assembleField, h], by simp [FieldValue.hasType, h]⟩

/-- The rows of a contiguous layout end inside it. -/
theorem contiguousFrom_bound {F : Type} (layout : List (LayoutRow F)) (o : Nat)
    (h : contiguousFrom o layout = true) :
    ∀ row ∈ layout, o ≤ row.offset ∧ row.offset + row.type.size ≤ o + layoutSize layout := by
  induction layout generalizing o with
  | nil => simp
  | cons r rest ih =>
    simp only [contiguousFrom, Bool.and_eq_true, beq_iff_eq] at h
    intro row hrow
    simp only [layoutSize]
    rcases List.mem_cons.mp hrow with rfl | hrow
    · omega
    · have := ih _ h.2 row hrow
      omega

/-- UNPACK of bytes that hold every row gives a record of the layout's shape (R150). -/
theorem unpack_ok {F : Type} [DecidableEq F] (order : RecOrder) (bs : List Byte) (base : Nat)
    (layout : List (LayoutRow F)) (h : ∀ row ∈ layout, base + row.offset + row.type.size ≤ bs.length) :
    ∃ r, unpack order (ByteSpace.ofBytes bs) base layout = .ok r ∧ hasShape layout r = true := by
  induction layout with
  | nil => exact ⟨[], rfl, rfl⟩
  | cons row rows ih =>
    obtain ⟨r, hr, hs⟩ := ih (fun q hq => h q (List.mem_cons_of_mem _ hq))
    have hb := h row List.mem_cons_self
    obtain ⟨v, hv, ht⟩ := assembleField_ok order row.type ((bs.drop (base + row.offset)).take row.type.size)
      (by simp; omega)
    refine ⟨(row.field, v) :: r, ?_, by simp [hasShape, ht, hs]⟩
    simp [unpack, memRead_ofBytes, hb, hv, hr]

/-- What a successful UNPACK holds: a value for each row, assembled from the bytes at its offset (R150). -/
theorem unpack_values {F : Type} {order : RecOrder} {bs : List Byte} {base : Nat}
    {layout : List (LayoutRow F)} {r : Record F}
    (h : unpack order (ByteSpace.ofBytes bs) base layout = .ok r) :
    List.Forall₂ (fun row fv => fv.1 = row.field ∧
      assembleField order row.type ((bs.drop (base + row.offset)).take row.type.size) = some fv.2) layout r := by
  induction layout generalizing r with
  | nil => simp only [unpack, Except.ok.injEq] at h; subst h; exact .nil
  | cons row rows ih =>
    unfold unpack at h
    rw [memRead_ofBytes] at h
    split at h
    · cases h
    · rename_i cs hcs
      split at hcs
      · cases hcs
        split at h
        · cases h
          exact .cons ⟨rfl, ‹_›⟩ (ih ‹_›)
        · cases h
        · cases h
      · cases hcs

theorem markersPresent_ofBytes (p : Params) (bs : List Byte) :
    markersPresent p (ByteSpace.ofBytes bs) =
      .ok (decide (bs[0]? = some dle ∧ bs[1]? = some p.sdfByte)) := by
  unfold markersPresent
  rw [memRead_ofBytes]
  match bs with
  | [] => rfl
  | [b] => simp
  | b0 :: b1 :: rest => by_cases h0 : b0 = dle <;> by_cases h1 : b1 = p.sdfByte <;> simp [h0, h1]

theorem trailerMismatches_ofBytes (p : Params) (bs : List Byte) :
    trailerMismatches p (ByteSpace.ofBytes bs) =
      .ok (!decide (37 ≤ bs.length ∧ bs[35]? = some dle ∧ bs[36]? = some p.eofByte)) := by
  unfold trailerMismatches
  rw [memRead_ofBytes]
  simp only [ByteSpace.ofBytes_len, show trailerOffset = 35 by decide]
  by_cases h : bs.length < 37
  · rw [if_pos h]
    simp; omega
  · rw [if_neg h, if_pos (by omega), List.drop_eq_getElem_cons (by omega), List.take_succ_cons,
      List.drop_eq_getElem_cons (by omega), List.take_succ_cons, List.take_zero,
      List.getElem?_eq_getElem (by omega), List.getElem?_eq_getElem (by omega)]
    have h37 : 37 ≤ bs.length := by omega
    by_cases hd : bs[35] = dle <;> by_cases he : bs[36] = p.eofByte <;> simp [hd, he, h37]

theorem liveVersion_ofBytes (p : Params) (bs : List Byte) (h : 5 ≤ bs.length) :
    liveVersion p (ByteSpace.ofBytes bs) = .ok (u16of p.recOrder (bs.getD 3 0#8) (bs.getD 4 0#8)) := by
  unfold liveVersion
  rw [memRead_ofBytes, show recOffset = 3 from rfl, if_pos (by omega), List.drop_eq_getElem_cons (by omega),
    List.take_succ_cons, List.drop_eq_getElem_cons (by omega), List.take_succ_cons]
  simp [List.getD, List.getElem?_eq_getElem (show 3 < bs.length by omega),
    List.getElem?_eq_getElem (show 4 < bs.length by omega)]

theorem readByte_getD (bs : List Byte) (i : Nat) (h : i < bs.length) :
    readByte (ByteSpace.ofBytes bs) i = .ok (bs.getD i 0#8) := by
  rw [readByte_ofBytes, List.getD, List.getElem?_eq_getElem h]
  rfl

theorem readAnalogWords_ofBytes (bs : List Byte) (h : 34 ≤ bs.length) :
    readAnalogWords (ByteSpace.ofBytes bs) =
      .ok (analogWordsOf (bs.getD 2 0#8) (bs.getD 3 0#8) (bs.getD 8 0#8) (bs.getD 9 0#8) (bs.getD 10 0#8)
        (bs.getD 11 0#8) (bs.getD 32 0#8) (bs.getD 33 0#8)) := by
  unfold readAnalogWords
  rw [readByte_getD bs 2 (by omega), readByte_getD bs 3 (by omega), readByte_getD bs 8 (by omega),
    readByte_getD bs 9 (by omega), readByte_getD bs 10 (by omega), readByte_getD bs 11 (by omega),
    readByte_getD bs 32 (by omega), readByte_getD bs 33 (by omega)]

/-- DERIVE_ANALOG writes `an_code` and `analog` alone. -/
theorem deriveAnalog_frame {s t : State} (h : deriveAnalog s = .ok t) :
    ∃ code reading, t = { s with anCode := code, analog := reading } := by
  unfold deriveAnalog at h
  split at h
  · cases h; exact ⟨_, _, rfl⟩
  · split at h
    · cases h; exact ⟨_, _, rfl⟩
    · split at h
      · cases h; exact ⟨_, _, rfl⟩
      · cases h

theorem decodeConfig_frame {s t : State} (h : decodeConfig s = .ok t) :
    ∃ code c l m, t = { s with resCode := code, cfg := c, live := l, trailerMismatch := m } := by
  unfold decodeConfig at h
  split at h
  · cases h; exact ⟨_, _, _, s.trailerMismatch, rfl⟩
  · split at h
    · cases h; exact ⟨_, _, s.live, s.trailerMismatch, rfl⟩
    · cases h

theorem unpackLive_frame {k : Bool} {s t : State} (h : unpackLive k s = .ok t) :
    ∃ code c l m, t = { s with resCode := code, cfg := c, live := l, trailerMismatch := m } := by
  unfold unpackLive at h
  split at h
  · cases h
  · split at h
    · split at h
      · cases h; exact ⟨_, s.cfg, _, _, rfl⟩
      · cases h
    · cases h; exact ⟨_, s.cfg, _, s.trailerMismatch, rfl⟩

theorem decodeLive_frame {k : Bool} {s t : State} (h : decodeLive k s = .ok t) :
    ∃ code c l m, t = { s with resCode := code, cfg := c, live := l, trailerMismatch := m } := by
  unfold decodeLive at h
  split at h
  · cases h; exact ⟨_, _, _, s.trailerMismatch, rfl⟩
  · split at h
    · cases h
    · split at h
      · cases h; exact ⟨_, s.cfg, _, s.trailerMismatch, rfl⟩
      · split at h
        · cases h; exact ⟨_, _, _, s.trailerMismatch, rfl⟩
        · exact unpackLive_frame h

/-- DECODE writes `res_code`, `cfg`, `live` and `trailer_mismatch` alone. -/
theorem decodeRecord_frame {s t : State} (h : decodeRecord s = .ok t) :
    ∃ code c l m, t = { s with resCode := code, cfg := c, live := l, trailerMismatch := m } := by
  unfold decodeRecord at h
  split at h
  · cases h; exact ⟨_, _, _, _, rfl⟩
  · split at h
    · cases h
    · cases h; exact ⟨_, _, _, _, rfl⟩
    · have lift : ∀ u : State, (∃ code c l m, u =
          { s.clearRecords with resCode := code, cfg := c, live := l, trailerMismatch := m }) →
          ∃ code c l m, u = { s with resCode := code, cfg := c, live := l, trailerMismatch := m } := by
        rintro u ⟨code, c, l, m, rfl⟩
        exact ⟨code, c, l, m, rfl⟩
      unfold decodePath at h
      split at h
      · exact lift t (decodeConfig_frame h)
      · exact lift t (decodeLive_frame h)
      · exact lift t (decodeLive_frame h)
      · cases h

/-- What a well-formed parameter set gives: room for a whole ConfigRecord frame, and a contiguous layout (R9). -/
theorem Params.wf_capacity {p : Params} (h : p.wf = true) :
    3 + layoutSize p.configLayout ≤ p.rxCap ∧ contiguousFrom 0 p.configLayout = true := by
  simp only [Params.wf, Bool.and_eq_true, Params.rxMinCap, recOffset, Params.configSize] at h
  have := of_decide_eq_true h.1.1.2
  exact ⟨this, h.1.2⟩

/-- A layout in the source's order names no field twice (R85). -/
theorem keepsFieldOrder_nodup {layout : List (LayoutRow ConfigField)} (h : keepsFieldOrder layout = true) :
    (layout.map LayoutRow.field).Nodup :=
  (List.isSublist_iff_sublist.mp h).nodup (by decide)

/-- What reading a whole record by the name of a field gives (R33, R34, R43). -/
theorem fieldOf_of_hasShape {F : Type} [DecidableEq F] {layout : List (LayoutRow F)} {r : Record F}
    (hn : (layout.map LayoutRow.field).Nodup) (h : hasShape layout r = true) :
    ∀ row ∈ layout, ∃ v, fieldOf row.field r = some v ∧ (row.field, v) ∈ r ∧ v.hasType row.type = true := by
  induction layout generalizing r with
  | nil => simp
  | cons row rows ih =>
    cases r with
    | nil => simp [hasShape] at h
    | cons fv rest =>
      obtain ⟨f, v⟩ := fv
      simp only [hasShape, Bool.and_eq_true, decide_eq_true_eq] at h
      obtain ⟨⟨rfl, hv⟩, hrest⟩ := h
      simp only [List.map_cons, List.nodup_cons] at hn
      intro q hq
      rcases List.mem_cons.mp hq with rfl | hq
      · exact ⟨v, by simp [fieldOf], by simp, hv⟩
      · obtain ⟨w, h1, h2, h3⟩ := ih hn.2 hrest q hq
        have hne : row.field ≠ q.field := fun e => hn.1 (e ▸ List.mem_map_of_mem hq)
        exact ⟨w, by simp [fieldOf, hne, h1], List.mem_cons_of_mem _ h2, h3⟩

/-- Everything the CFG path answers on a filled snapshot (R144, R145). -/
theorem decodeConfig_cases (s : State) (bs : List Byte) (hr : s.rxs = .ofBytes bs) (hp : s.params.wf = true) :
    (bs.length < 3 + layoutSize s.params.configLayout ∧ decodeConfig s = .ok (s.takeError .malformedFrame)) ∨
    (3 + layoutSize s.params.configLayout ≤ bs.length ∧
      ∃ r, unpack s.params.recOrder (.ofBytes bs) 3 s.params.configLayout = .ok r ∧
        hasShape s.params.configLayout r = true ∧
        decodeConfig s = .ok { s with cfg := some r, resCode := .configRecord }) := by
  by_cases h : bs.length < 3 + layoutSize s.params.configLayout
  · left; refine ⟨h, ?_⟩
    simp [decodeConfig, hr, recOffset, Params.configSize, h]
  · right
    obtain ⟨r, h1, h2⟩ := unpack_ok s.params.recOrder bs 3 s.params.configLayout (by
      intro row hrow
      have := contiguousFrom_bound _ _ (Params.wf_capacity hp).2 row hrow
      omega)
    refine ⟨by omega, r, h1, h2, ?_⟩
    simp [decodeConfig, hr, recOffset, Params.configSize, h, h1]

/-- Everything the live path answers on a filled snapshot (R144, R146 to R149). -/
theorem decodeLive_cases (k : Bool) (s : State) (bs : List Byte) (hr : s.rxs = .ofBytes bs) :
    (bs.length < 5 ∧ decodeLive k s = .ok (s.takeError .malformedFrame)) ∨
    (5 ≤ bs.length ∧ u16of s.params.recOrder (bs.getD 3 0#8) (bs.getD 4 0#8) ≠ 4#16 ∧
      decodeLive k s = .ok (s.takeError .unsupportedVersion)) ∨
    (5 ≤ bs.length ∧ bs.length < 35 ∧ u16of s.params.recOrder (bs.getD 3 0#8) (bs.getD 4 0#8) = 4#16 ∧
      decodeLive k s = .ok (s.takeError .malformedFrame)) ∨
    (35 ≤ bs.length ∧ u16of s.params.recOrder (bs.getD 3 0#8) (bs.getD 4 0#8) = 4#16 ∧
      ∃ r, unpack s.params.recOrder (.ofBytes bs) 3 liveLayout = .ok r ∧ hasShape liveLayout r = true ∧
        decodeLive k s = .ok { s with
          live := some r
          resCode := .liveRecord
          trailerMismatch :=
            if k = true then (!decide (37 ≤ bs.length ∧ bs[35]? = some dle ∧ bs[36]? = some s.params.eofByte))
            else s.trailerMismatch }) := by
  by_cases h : bs.length < 5
  · left; refine ⟨h, ?_⟩
    simp [decodeLive, hr, recOffset, h]
  · right
    have hv := liveVersion_ofBytes s.params bs (by omega)
    by_cases hx : u16of s.params.recOrder (bs.getD 3 0#8) (bs.getD 4 0#8) = 4#16
    · right
      by_cases h35 : bs.length < 35
      · left
        refine ⟨by omega, h35, hx, ?_⟩
        unfold decodeLive
        rw [hr, hv, hx]
        simp only [ByteSpace.ofBytes_len, recOffset, show liveSize = 32 by decide, liveVersionNumber, if_neg h]
        simp [h35]
      · right
        obtain ⟨r, h1, h2⟩ := unpack_ok s.params.recOrder bs 3 liveLayout (by
          intro row hrow
          have := contiguousFrom_bound liveLayout 0 (by decide) row hrow
          rw [show layoutSize liveLayout = 32 by decide] at this
          omega)
        refine ⟨by omega, hx, r, h1, h2, ?_⟩
        unfold decodeLive
        rw [hr, hv, hx]
        simp only [ByteSpace.ofBytes_len, recOffset, show liveSize = 32 by decide, liveVersionNumber, if_neg h]
        simp only [ne_eq, not_true_eq_false, if_false, show ¬ bs.length < 3 + 32 by omega, unpackLive, hr, recOffset, h1]
        cases k
        · simp
        · rw [trailerMismatches_ofBytes]; simp
    · left
      refine ⟨by omega, hx, ?_⟩
      unfold decodeLive
      rw [hr, hv]
      simp only [ByteSpace.ofBytes_len, recOffset, liveVersionNumber, show ¬ bs.length < 3 + 2 by omega, if_false]
      simp only [ne_eq, hx, not_false_eq_true, if_true]

/-- What DERIVE_ANALOG answers on a filled capture snapshot (R170, R173). -/
theorem deriveAnalog_ofBytes (s : State) (cs : List Byte) (hr : s.caps = .ofBytes cs) :
    deriveAnalog s = .ok (
      if s.syncCountS = 0#2 then { s with analog := none, anCode := .noCapture }
      else if cs.length < 34 then { s with analog := none, anCode := .insufficientCaptureData }
      else { s with
        anCode := .analogReading
        analog := some (scaleWords (analogWordsOf (cs.getD 2 0#8) (cs.getD 3 0#8) (cs.getD 8 0#8) (cs.getD 9 0#8)
          (cs.getD 10 0#8) (cs.getD 11 0#8) (cs.getD 32 0#8) (cs.getD 33 0#8))) }) := by
  unfold deriveAnalog
  by_cases h : s.syncCountS = 0#2
  · simp [h]
  · by_cases h2 : cs.length < 34
    · simp [h, h2, hr, analogMinLen, State.takeError]
    · simp [h, h2, hr, analogMinLen, readAnalogWords_ofBytes cs (by omega)]

/-- Everything WAIT_DONE can do when it answers a next state. -/
theorem execWaitDone_cases {s t : State} (h : execWaitDone s = .next t) :
    (s.phase ≠ .waiting ∧ t = s.markRefused) ∨
    (s.phase = .waiting ∧ ∃ u, decodeRecord s.snapshot = .ok u ∧ ∃ v, deriveAnalog u = .ok v ∧
      t = { v with phase := .done }) := by
  unfold execWaitDone finishWait refuse at h
  split at h
  · refine .inr ⟨‹_›, ?_⟩
    split at h
    · rename_i w hw
      cases h
      split at hw
      · cases hw
      · split at hw
        · cases hw
        · cases hw
          exact ⟨_, ‹_›, _, ‹_›, rfl⟩
    · cases h
  · cases h; exact .inl ⟨‹_›, rfl⟩

/-- The frame of WAIT_DONE: the snapshot, the result registers and the phase. -/
theorem execWaitDone_frame {s t : State} (h : execWaitDone s = .next t) (hw : s.phase = .waiting) :
    ∃ code c l m acode reading,
      t = { s with
        rxs := s.rxb
        caps := s.cap
        syncCountS := s.syncCount
        capOverflowS := s.capOverflow
        resCode := code
        cfg := c
        live := l
        trailerMismatch := m
        anCode := acode
        analog := reading
        phase := .done } := by
  rcases execWaitDone_cases h with ⟨hn, -⟩ | ⟨-, u, hu, v, hv, rfl⟩
  · exact absurd hw hn
  · obtain ⟨code, c, l, m, rfl⟩ := decodeRecord_frame hu
    obtain ⟨acode, reading, rfl⟩ := deriveAnalog_frame hv
    exact ⟨code, c, l, m, acode, reading, rfl⟩

end Sys2Proof.Machine
end

