-- ==== Sys2Proof/Laws/Float64.lean ====
section
/-! SUPPORT. The binary64 rounding of Machine/Float64.lean: what a pattern built by `signed` stands for, that a
representable value rounds to itself, and that rounding is monotone (00_scope.md R11). -/

namespace Sys2Proof.Machine

theorem pow2_eq (n : Nat) : pow2 n = 2 ^ n := rfl

theorem pow2_pos (n : Nat) : 0 < pow2 n := by rw [pow2_eq]; positivity

theorem pow2_succ (n : Nat) : pow2 (n + 1) = 2 * pow2 n := by rw [pow2_eq, pow2_eq, Nat.pow_succ, Nat.mul_comm]

/-- The magnitude, in units of 2^-1074, of finite magnitude bits. -/
def unitsOfBits (m : Nat) : Nat :=
  if m / 2 ^ 52 = 0 then m % 2 ^ 52 else (2 ^ 52 + m % 2 ^ 52) * 2 ^ (m / 2 ^ 52 - 1)

theorem signed_toNat (neg : Bool) (m : Nat) (h : m ≤ infinityBits) :
    (signed neg m).toNat = (if neg then 2 ^ 63 else 0) + m := by
  have h63 : pow2 63 = 9223372036854775808 := rfl
  simp only [infinityBits] at h
  unfold signed
  rw [BitVec.toNat_ofNat]
  cases neg <;> simp only [h63, Bool.false_eq_true, if_false, if_true] <;> omega

/-- A sign and finite magnitude bits stand for that sign and that many units. -/
theorem datum_signed (neg : Bool) (m : Nat) (h : m < infinityBits) :
    datum (signed neg m) = .finite neg (unitsOfBits m) := by
  have hn := signed_toNat neg m (Nat.le_of_lt h)
  have h52 : pow2 52 = 4503599627370496 := rfl
  have h11 : pow2 11 = 2048 := rfl
  have h63 : pow2 63 = 9223372036854775808 := rfl
  simp only [infinityBits] at h
  have he : exponentBits (signed neg m) = m / 4503599627370496 := by
    simp only [exponentBits, hn, h52, h11]
    cases neg <;> simp only [Bool.false_eq_true, if_false, if_true] <;> omega
  have hf : fractionBits (signed neg m) = m % 4503599627370496 := by
    simp only [fractionBits, hn, h52]
    cases neg <;> simp only [Bool.false_eq_true, if_false, if_true] <;> omega
  have hs : signBit (signed neg m) = neg := by
    simp only [signBit, hn, h63]
    cases neg <;> (simp only [Bool.false_eq_true, if_false, if_true]; simp; try omega)
  simp only [datum, he, hf, hs, unitsOfBits, h52, pow2_eq]
  rw [if_neg (by omega)]
  norm_num
  split <;> rfl

/-- Finite magnitude bits round to themselves: a representable value is exact. -/
theorem roundUnits_exact (m : Nat) (h : m < infinityBits) : roundUnits (unitsOfBits m) 1 = m := by
  simp only [infinityBits] at h
  have h52 : pow2 52 = 4503599627370496 := rfl
  by_cases hz : m / 2 ^ 52 = 0
  · have hm : m < 4503599627370496 := by omega
    have hu : unitsOfBits m = m := by rw [unitsOfBits, if_pos hz]; omega
    have hb : binade m 1 = 0 := by
      rw [binade, Nat.div_one]
      by_cases h0 : m = 0
      · rw [h0]; rfl
      · have := (Nat.log2_lt h0).2 (show m < 2 ^ 52 by omega)
        omega
    rw [hu, roundUnits, hb]
    simp only [roundQuotient, infinityBits, show pow2 0 = 1 from rfl, Nat.mul_one, Nat.mod_one, Nat.div_one]
    simp; omega
  · obtain ⟨e, hq⟩ : ∃ e, m / 2 ^ 52 = e + 1 := ⟨m / 2 ^ 52 - 1, by omega⟩
    have hu : unitsOfBits m = (2 ^ 52 + m % 2 ^ 52) * 2 ^ e := by
      rw [unitsOfBits, if_neg hz, hq, Nat.add_sub_cancel]
    have hpos : unitsOfBits m ≠ 0 := by rw [hu]; positivity
    have hb : binade (unitsOfBits m) 1 = e := by
      have hlog : Nat.log2 (unitsOfBits m) = 52 + e := by
        rw [Nat.log2_eq_iff hpos, hu]
        have hf : m % 2 ^ 52 < 2 ^ 52 := Nat.mod_lt _ (by norm_num)
        constructor
        · rw [Nat.pow_add]; exact Nat.mul_le_mul_right _ (by omega)
        · rw [show 52 + e + 1 = 53 + e by omega, Nat.pow_add]
          exact Nat.mul_lt_mul_of_pos_right (by omega) (by positivity)
      rw [binade, Nat.div_one, hlog]; omega
    have hrq : roundQuotient (unitsOfBits m) (1 * pow2 e) = 2 ^ 52 + m % 2 ^ 52 := by
      rw [Nat.one_mul, pow2_eq, hu, roundQuotient, Nat.mul_mod_left, Nat.mul_div_cancel _ (by positivity)]
      have : (2 : Nat) ^ e ≠ 0 := by positivity
      simp only [Nat.mul_zero, Nat.not_lt_zero, if_false]
      rw [if_neg]
      rintro ⟨h1, -⟩
      exact this h1.symm
    rw [roundUnits, hb, hrq, h52]
    simp only [infinityBits]
    omega

theorem roundQuotient_bounds (a b : Nat) : a / b ≤ roundQuotient a b ∧ roundQuotient a b ≤ a / b + 1 := by
  unfold roundQuotient
  split
  · omega
  · split <;> omega

/-- Rounding a quotient to nearest, ties to even, is monotone. -/
theorem roundQuotient_mono {a b c d : Nat} (hb : 0 < b) (hd : 0 < d) (h : a * d ≤ c * b) :
    roundQuotient a b ≤ roundQuotient c d := by
  have hq : a / b ≤ c / d := by
    rw [Nat.le_div_iff_mul_le hd]
    have h1 := Nat.div_mul_le_self a b
    have : a / b * d * b ≤ c * b := by nlinarith
    exact Nat.le_of_mul_le_mul_right this hb
  have ha := roundQuotient_bounds a b
  have hc := roundQuotient_bounds c d
  rcases Nat.lt_or_ge (a / b) (c / d) with hlt | hge
  · omega
  · have heq : a / b = c / d := Nat.le_antisymm hq hge
    have ea := Nat.div_add_mod a b
    have ec := Nat.div_add_mod c d
    have hr : a % b * d ≤ c % d * b := by
      rw [heq] at ea
      generalize a % b = r at *
      generalize c % d = s at *
      generalize c / d = q at *
      subst ea ec
      nlinarith
    unfold roundQuotient
    rw [heq]
    have key1 : b < 2 * (a % b) → d < 2 * (c % d) := by
      intro h1
      by_contra h2
      have : 2 * (c % d) ≤ d := by omega
      nlinarith
    have key2 : 2 * (a % b) = b → d ≤ 2 * (c % d) := by
      intro h1
      by_contra h2
      have : 2 * (c % d) < d := by omega
      nlinarith
    split
    · rw [if_pos (key1 ‹_›)]
    · split
      · rename_i h1 h2
        rcases Nat.lt_or_ge d (2 * (c % d)) with h3 | h3
        · rw [if_pos h3]
        · have h4 : 2 * (c % d) = d := Nat.le_antisymm h3 (key2 h2.1)
          rw [if_neg (by omega), if_pos ⟨h4, h2.2⟩]
      · split
        · omega
        · split <;> omega

theorem div_lt_pow_binade (a b : Nat) : a / b < 2 ^ (53 + binade a b) := by
  by_cases h0 : a / b = 0
  · rw [h0]; positivity
  · have := (Nat.log2_lt h0).1 (Nat.lt_succ_self (Nat.log2 (a / b)))
    refine Nat.lt_of_lt_of_le this (Nat.pow_le_pow_right (by norm_num) ?_)
    simp only [binade]
    omega

theorem pow_binade_le_div {a b : Nat} (h : 0 < binade a b) : 2 ^ (52 + binade a b) ≤ a / b := by
  have h0 : a / b ≠ 0 := by
    intro h0
    rw [binade, h0] at h
    exact absurd h (by decide)
  have := Nat.log2_self_le h0
  refine Nat.le_trans (Nat.pow_le_pow_right (by norm_num) ?_) this
  simp only [binade] at h ⊢
  omega

/-- The significand a binade holds: at most 2^53 after rounding, and at least 2^52 above the subnormals. -/
theorem roundQuotient_binade (a b : Nat) (_hb : 0 < b) :
    roundQuotient a (b * pow2 (binade a b)) ≤ 2 ^ 53 ∧
      (0 < binade a b → 2 ^ 52 ≤ roundQuotient a (b * pow2 (binade a b))) := by
  have hbounds := roundQuotient_bounds a (b * pow2 (binade a b))
  rw [← Nat.div_div_eq_div_mul] at hbounds
  constructor
  · have h1 := div_lt_pow_binade a b
    have : a / b / pow2 (binade a b) < 2 ^ 53 := by
      rw [Nat.div_lt_iff_lt_mul (pow2_pos _), pow2_eq, ← Nat.pow_add]
      exact h1
    omega
  · intro h
    have h1 := pow_binade_le_div h
    have : 2 ^ 52 ≤ a / b / pow2 (binade a b) := by
      rw [Nat.le_div_iff_mul_le (pow2_pos _), pow2_eq, ← Nat.pow_add]
      exact h1
    omega

/-- Rounding to binary64 is monotone: a smaller quotient never rounds to larger magnitude bits. -/
theorem roundUnits_mono {a b c d : Nat} (hb : 0 < b) (hd : 0 < d) (h : a * d ≤ c * b) :
    roundUnits a b ≤ roundUnits c d := by
  have hq : a / b ≤ c / d := by
    rw [Nat.le_div_iff_mul_le hd]
    have h1 := Nat.div_mul_le_self a b
    have : a / b * d * b ≤ c * b := by nlinarith
    exact Nat.le_of_mul_le_mul_right this hb
  have hbin : binade a b ≤ binade c d := by
    by_cases h0 : a / b = 0
    · rw [binade, h0]; exact Nat.zero_le _
    · have hlog : Nat.log2 (a / b) ≤ Nat.log2 (c / d) := by
        have h1 := Nat.log2_self_le h0
        have hne : c / d ≠ 0 := (Nat.lt_of_lt_of_le (Nat.pos_of_ne_zero h0) hq).ne'
        exact (Nat.le_log2 hne).2 (Nat.le_trans h1 hq)
      simp only [binade]
      omega
  have ha := roundQuotient_binade a b hb
  have hc := roundQuotient_binade c d hd
  have h52 : pow2 52 = 4503599627370496 := rfl
  norm_num at ha hc
  unfold roundUnits
  rw [h52]
  refine min_le_min_right _ ?_
  rcases Nat.lt_or_ge (binade a b) (binade c d) with hlt | hge
  · have h2 := hc.2 (by omega)
    have h1 := ha.1
    generalize roundQuotient a (b * pow2 (binade a b)) = x at h1
    generalize roundQuotient c (d * pow2 (binade c d)) = y at h2
    generalize binade a b = m at hlt
    generalize binade c d = n at hlt
    clear ha hc
    omega
  · have heq : binade a b = binade c d := Nat.le_antisymm hbin hge
    have : roundQuotient a (b * pow2 (binade c d)) ≤ roundQuotient c (d * pow2 (binade c d)) := by
      refine roundQuotient_mono (Nat.mul_pos hb (pow2_pos _)) (Nat.mul_pos hd (pow2_pos _)) ?_
      nlinarith [pow2_pos (binade c d)]
    rw [heq]
    exact Nat.add_le_add_left this _

end Sys2Proof.Machine
end

