-- ==== Sys2Proof/Laws/PerInstr.lean ====
section
/-! SUPPORT. Per event: its word matches its own row of the opcode table (30_encoding.md R75). -/

namespace Sys2Proof.Laws.EncodeMatchesRow

/-- The event's word matches the event's row, which is a row of the table. -/
def Statement (i : Instr) : Prop := rowOf i ∈ opcodeTable ∧ encode i &&& (rowOf i).mask = (rowOf i).pattern

theorem cmdReadConfig : Statement .cmdReadConfig := ⟨by decide, by decide⟩

theorem cmdReadLive : Statement .cmdReadLive := ⟨by decide, by decide⟩

theorem cmdReadLiveSimple : Statement .cmdReadLiveSimple := ⟨by decide, by decide⟩

theorem rxByte (b : Byte) : Statement (.rxByte b) := by
  refine ⟨by simp [rowOf, opcodeTable], ?_⟩
  revert b
  decide +kernel

theorem rxErr : Statement .rxErr := ⟨by decide, by decide⟩

theorem waitDone : Statement .waitDone := ⟨by decide, by decide⟩

theorem reset : Statement .reset := ⟨by decide, by decide⟩

end Sys2Proof.Laws.EncodeMatchesRow
end

