-- ==== Sys2Proof/Laws/Receiver.lean ====
section
/-! SUPPORT. What the steps of RX_BYTE do to the registers they write (41_stream_receiver.md R120 to R125). -/

namespace Sys2Proof.Machine

theorem State.markerSeen_iff (s : State) (b : Byte) :
    s.markerSeen b = true ↔ s.prev = sync0 ∧ b = sync1 ∧ s.syncCount.toNat < 2 := by
  simp [State.markerSeen, syncMax, and_assoc]

theorem State.detectMarker_capturing (s : State) (b : Byte) :
    (s.detectMarker b).capturing = if s.markerSeen b then !s.capturing else s.capturing := by
  unfold State.detectMarker; split <;> rfl

theorem State.detectMarker_syncCount (s : State) (b : Byte) :
    (s.detectMarker b).syncCount = if s.markerSeen b then s.syncCount + 1#2 else s.syncCount := by
  unfold State.detectMarker; split <;> rfl

theorem State.captureByte_cap (s : State) (b : Byte) :
    (s.captureByte b).cap = if s.capturing && decide (s.cap.len < 40) then s.cap.append b else s.cap := by
  unfold State.captureByte capCap
  by_cases hc : s.capturing = true <;> by_cases hl : s.cap.len < 40 <;> simp [hc, hl]

theorem State.captureByte_capOverflow (s : State) (b : Byte) :
    (s.captureByte b).capOverflow = (s.capOverflow || (s.capturing && decide (40 ≤ s.cap.len))) := by
  unfold State.captureByte capCap
  by_cases hc : s.capturing = true <;> by_cases hl : s.cap.len < 40 <;> (simp [hc, hl]; try omega)

theorem State.receiveByte_rxb (s : State) (b : Byte) :
    (s.receiveByte b).rxb = if s.rxb.len < s.params.rxCap then s.rxb.append b else s.rxb := by
  unfold State.receiveByte; split <;> rfl

theorem State.receiveByte_rxOverflow (s : State) (b : Byte) :
    (s.receiveByte b).rxOverflow = (s.rxOverflow || decide (s.params.rxCap ≤ s.rxb.len)) := by
  unfold State.receiveByte
  by_cases hl : s.rxb.len < s.params.rxCap <;> (simp [hl]; try omega)

/-- Whether a byte is to be captured: `capturing` after the toggle under TOGGLE_FIRST, before it under
APPEND_FIRST. -/
def State.capturesNow (s : State) (b : Byte) : Bool :=
  match s.params.captureOrder with
  | .toggleFirst => if s.markerSeen b then !s.capturing else s.capturing
  | .appendFirst => s.capturing

/-- An admitted RX_BYTE, in either capture order. -/
theorem receive_eq (s : State) (b : Byte) :
    receive b s =
      { s with
        capturing := if s.markerSeen b then !s.capturing else s.capturing
        syncCount := if s.markerSeen b then s.syncCount + 1#2 else s.syncCount
        prev := b
        cap := if s.capturesNow b && decide (s.cap.len < 40) then s.cap.append b else s.cap
        capOverflow := s.capOverflow || (s.capturesNow b && decide (40 ≤ s.cap.len))
        rxb := if s.rxb.len < s.params.rxCap then s.rxb.append b else s.rxb
        rxOverflow := s.rxOverflow || decide (s.params.rxCap ≤ s.rxb.len)
        responseObserved := true } := by
  have hseen : (s.captureByte b).markerSeen b = s.markerSeen b := by simp [State.markerSeen]
  unfold receive State.capturesNow
  cases s.params.captureOrder <;> refine State.ext ?_ ?_ ?_ ?_ ?_ ?_ ?_ ?_ ?_ ?_ ?_ ?_ ?_ ?_ ?_ ?_ ?_ ?_ ?_ ?_ ?_ ?_ ?_ ?_ <;>
    simp [State.detectMarker_capturing, State.detectMarker_syncCount, State.captureByte_cap,
      State.captureByte_capOverflow, State.receiveByte_rxb, State.receiveByte_rxOverflow, hseen]

/-- Everything RX_BYTE can do. -/
theorem execRxByte_cases {b : Byte} {s t : State} (h : execRxByte b s = .next t) :
    (s.phase = .fatal ∧ t = s.markRefused) ∨ (s.phase ≠ .fatal ∧ t = receive b s) := by
  unfold execRxByte refuse at h
  split at h <;> cases h
  · exact .inl ⟨‹_›, rfl⟩
  · exact .inr ⟨‹_›, rfl⟩

/-- Everything RX_ERR can do. -/
theorem execRxErr_cases {s t : State} (h : execRxErr s = .next t) :
    (s.phase = .fatal ∧ t = s.markRefused) ∨ (s.phase ≠ .fatal ∧ t = s.takeError .transportReadError) := by
  unfold execRxErr refuse at h
  split at h <;> cases h
  · exact .inl ⟨‹_›, rfl⟩
  · exact .inr ⟨‹_›, rfl⟩

end Sys2Proof.Machine
end

