-- ==== Sys2Proof/Laws/Step.lean ====
section
/-! SUPPORT. Everything a step can do, and what no event changes (00_scope.md R2, R12). -/

namespace Sys2Proof.Machine

/-- Everything a CMD event can do (R105). -/
theorem runCommand_cases {c : Cmd} {s t : State} (h : runCommand c s = .next t) :
    (s.phase = .idle ∧ t = { s.emit (frame s.params c) with cmdLatched := some c, phase := .waiting }) ∨
    (s.phase ≠ .idle ∧ t = s.markRefused) := by
  unfold runCommand refuse at h
  split at h <;> cases h
  · exact .inl ⟨‹_›, rfl⟩
  · exact .inr ⟨‹_›, rfl⟩

/-- Everything a step can do when it answers a next state. -/
theorem step_cases {s t : State} (h : step s = .next t) :
    s.params.wf = true ∧ ∃ w ws, s.inputs = w :: ws ∧
      ((∃ i, decode w = .event i ∧ exec i { s with inputs := ws } = .next t) ∨
        ∃ why, decode w = .reserved why ∧ t = { s with inputs := ws, refused := true }) := by
  unfold step fetch at h
  by_cases hp : s.params.wf = true
  · refine ⟨hp, ?_⟩
    rw [hp] at h
    simp only [if_true] at h
    cases hi : s.inputs with
    | nil => simp [hi] at h
    | cons w ws =>
      refine ⟨w, ws, rfl, ?_⟩
      simp only [hi] at h
      cases hd : decode w with
      | event i => simp only [hd] at h; exact .inl ⟨i, rfl, h⟩
      | reserved why => simp only [hd, refuse] at h; cases h; exact .inr ⟨why, rfl, rfl⟩
  · simp [hp] at h

/-- No event changes the parameters or takes a word of the queue. -/
theorem exec_params_inputs {i : Instr} {s t : State} (h : exec i s = .next t) :
    t.params = s.params ∧ t.inputs = s.inputs := by
  have hcmd : ∀ c, runCommand c s = .next t → t.params = s.params ∧ t.inputs = s.inputs := by
    intro c hc
    rcases runCommand_cases hc with ⟨-, rfl⟩ | ⟨-, rfl⟩ <;> exact ⟨rfl, rfl⟩
  cases i with
  | cmdReadConfig => exact hcmd _ h
  | cmdReadLive => exact hcmd _ h
  | cmdReadLiveSimple => exact hcmd _ h
  | rxByte b =>
    rcases execRxByte_cases h with ⟨-, rfl⟩ | ⟨-, rfl⟩
    · exact ⟨rfl, rfl⟩
    · rw [receive_eq]; exact ⟨rfl, rfl⟩
  | rxErr => rcases execRxErr_cases h with ⟨-, rfl⟩ | ⟨-, rfl⟩ <;> exact ⟨rfl, rfl⟩
  | waitDone =>
    by_cases hw : s.phase = .waiting
    · obtain ⟨_, _, _, _, _, _, rfl⟩ := execWaitDone_frame h hw
      exact ⟨rfl, rfl⟩
    · rcases execWaitDone_cases h with ⟨-, rfl⟩ | ⟨hn, -⟩
      · exact ⟨rfl, rfl⟩
      · exact absurd hn hw
  | reset => cases h; exact ⟨rfl, rfl⟩

end Sys2Proof.Machine
end

