-- ==== Sys2Proof/Tests/Slice0.lean ====
section
/-! SUPPORT. The model's own tests: the checks of WellFormed, the decoder on written-out words, one step of each event
against the vectors of spec/95_test_vectors.md, binary64 against the vectors V-AN, and for every statement with
hypotheses a state that meets them. Expected values come from the spec; each comment names the vector or rule. -/

namespace Sys2Proof.Tests

open Sys2Proof Sys2Proof.Machine

/-! ### Well-formed parameters (R9): each check refuses an ill-formed term -/

theorem test_pRef_wf : pRef.wf = true := by decide

theorem test_wf_refuses_wrong_config_checksum :
    { pRef with cfgCmd := ⟨0x13, [0x00], 0x0053⟩ }.wf = false := by decide

theorem test_wf_refuses_wrong_live_checksum :
    { pRef with liveCmd := ⟨0x13, [0x01], 0x0052⟩ }.wf = false := by decide

theorem test_wf_refuses_wrong_live_simple_checksum :
    { pRef with livesCmd := ⟨0x13, [0x06], 0x5800⟩ }.wf = false := by decide

/-- RX_MIN_CAP is 81 with the default layout (R8). -/
theorem test_wf_refuses_small_buffer :
    { pRef with rxCap := 80 }.wf = false ∧ { pRef with rxCap := 81 }.wf = true := by decide

theorem test_wf_refuses_gap_in_layout :
    { pRef with configLayout := [⟨.version, 0, .u16⟩, ⟨.sensorType, 4, .tag8⟩] }.wf = false := by decide

theorem test_wf_refuses_reordered_layout :
    { pRef with configLayout := [⟨.sensorType, 0, .tag8⟩, ⟨.version, 8, .u16⟩] }.wf = false := by decide

/-- A layout with nine floats that keeps the order is accepted (90_conflicts.md C1). -/
theorem test_wf_accepts_other_layout :
    { pRef with configLayout := [⟨.version, 0, .u16⟩, ⟨.mode, 2, .u16⟩, ⟨.power, 4, .f32bits⟩] }.wf = true := by
  decide

/-! ### The decoder on words written out bit by bit from R71 and R72, and V-RSV -/

theorem test_decode_cmd_read_config : decode 0b0000_00000000 = .event .cmdReadConfig := by decide

theorem test_decode_cmd_read_live : decode 0b0000_00000001 = .event .cmdReadLive := by decide

theorem test_decode_cmd_read_live_simple : decode 0b0000_00000010 = .event .cmdReadLiveSimple := by decide

theorem test_decode_rx_byte :
    decode 0b0001_10100101 = .event (.rxByte 0xA5) ∧ decode 0b0001_11111111 = .event (.rxByte 0xFF) := by decide

theorem test_decode_rx_err : decode 0b0010_00000000 = .event .rxErr := by decide

theorem test_decode_wait_done : decode 0b0011_00000000 = .event .waitDone := by decide

theorem test_decode_reset : decode 0b1111_00000000 = .event .reset := by decide

/-- V-RSV-1 to V-RSV-6, V-CMD-6, V-CMD-7. -/
theorem test_decode_reserved :
    decode 0x400 = .reserved .op ∧ decode 0xE00 = .reserved .op ∧ decode 0x201 = .reserved .rxErrArg ∧
    decode 0x301 = .reserved .waitDoneArg ∧ decode 0xF01 = .reserved .resetArg ∧
    decode 0x0FF = .reserved .cmdArg ∧ decode 0x003 = .reserved .cmdSel ∧ decode 0x004 = .reserved .cmdArg := by
  decide

/-- Table words in 16-bit containers; a number above 12 bits is no event word (log 17). -/
theorem test_decode_table_word :
    decodeTableWord 16 0x300 = some .waitDone ∧ decodeTableWord 16 0x1FF = some (.rxByte 0xFF) ∧
    decodeTableWord 16 0x400 = none ∧ decodeTableWord 16 0x1300 = none := by decide

/-! ### Small states -/

/-- A state in WAITING under P_REF with a command sent, bytes received and bytes captured. -/
def waitingState (c : Cmd) (rx cap : List Byte) (sync : BitVec 2) : State :=
  { State.powerOn pRef with
    phase := .waiting
    cmdLatched := some c
    txLog := [frame pRef c]
    rxb := ByteSpace.ofBytes rx
    responseObserved := !rx.isEmpty
    cap := ByteSpace.ofBytes cap
    syncCount := sync
    capturing := sync == 1#2 }

/-- CR, the 85-byte configuration response of 95_test_vectors.md. -/
def configResponse : List Byte :=
  [0x10, 0x1A, 0x4E, 0x01, 0x00, 0x50, 0x52, 0x45, 0x4D, 0x49, 0x45, 0x52, 0x00, 0x03, 0x00, 0x64, 0x00, 0x00, 0x00, 0x00] ++
  [0x00, 0x00, 0x00, 0xA0, 0x41, 0x00, 0x00, 0xA4, 0x41, 0x00, 0x00, 0x80, 0x3F, 0x00, 0x00, 0x00, 0x40, 0x00, 0x00, 0x80] ++
  [0x3E, 0x00, 0x00, 0x80, 0xBE, 0x00, 0x00, 0x48, 0x42, 0x00, 0x00, 0x00, 0x00, 0x00, 0x00, 0xC8, 0x42, 0x33, 0x33, 0x53] ++
  [0x40, 0x53, 0x4E, 0x31, 0x32, 0x33, 0x34, 0x35, 0x36, 0x37, 0x38, 0x00, 0x00, 0x00, 0x3F, 0x01, 0x00, 0x00, 0x96, 0x1E] ++
  [0x00, 0x10, 0x1F, 0x0D, 0xAA]

/-- LR, the 39-byte live-data response of 95_test_vectors.md. -/
def liveResponse : List Byte :=
  [0x10, 0x1A, 0x20, 0x04, 0x00, 0x00, 0x00, 0x00, 0x00, 0x80, 0x3F, 0x00, 0x00, 0xC8, 0x41, 0x34, 0x12, 0x78, 0x56, 0x00] ++
  [0x00, 0x00, 0x3F, 0x03, 0x02, 0x01, 0x00, 0x00, 0x01, 0x00, 0x02, 0x00, 0x03, 0x00, 0x04, 0x10, 0x1F, 0x03, 0xA8]

/-- The CAP of program P3: the marker's 0x0C, a 38-byte block, and the closing 0x0F. -/
def analogCapture : List Byte :=
  [0x0C, 0x55, 0x40, 0x00, 0x55, 0x55, 0x55, 0x55, 0x23, 0x47, 0x30, 0x00] ++ List.replicate 20 0x55 ++
  [0x01, 0x02, 0x55, 0x55, 0x55, 0x55, 0x55, 0x0F]

/-- A check on the next state of an outcome; false where there is none. -/
def nextIs (o : StepOutcome) (check : State → Bool) : Bool :=
  match nextState? o with
  | some t => check t
  | none => false

/-! ### One step of each event -/

/-- V-CMD-1, through the step. -/
theorem test_cmd_read_config :
    nextIs (step (State.reset.withFetchWord 16 0x000)) (fun t =>
      t.txLog == [[0x10, 0x13, 0x00, 0x10, 0x1F, 0x00, 0x52]] && t.status == 0x00000001 && !t.refused) = true := by
  decide

/-- V-CMD-2. -/
theorem test_cmd_read_live :
    nextIs (exec .cmdReadLive State.reset) (fun t =>
      t.txLog == [[0x10, 0x13, 0x01, 0x10, 0x1F, 0x00, 0x53]] && t.status == 0x00000401) = true := by decide

/-- V-CMD-4: a second CMD emits nothing and is refused. -/
theorem test_cmd_read_live_refused :
    nextIs (exec .cmdReadLive (waitingState .cfg [] [] 0)) (fun t =>
      t.txLog == [[0x10, 0x13, 0x00, 0x10, 0x1F, 0x00, 0x52]] && t.phase == .waiting && t.refused) = true := by decide

/-- V-CMD-3. -/
theorem test_cmd_read_live_simple :
    nextIs (exec .cmdReadLiveSimple State.reset) (fun t =>
      t.txLog == [[0x10, 0x13, 0x06, 0x10, 0x1F, 0x00, 0x58]] && t.status == 0x00000801) = true := by decide

/-- V-RX-1, second byte, under TOGGLE_FIRST: the 0x0C of the first marker is captured. -/
theorem test_rx_byte_opening_marker :
    nextIs (exec (.rxByte 0x0C) { State.reset with prev := 0x0F, rxb := .ofBytes [0x0F], responseObserved := true })
      (fun t => t.cap == .ofBytes [0x0C] && t.rxb == .ofBytes [0x0F, 0x0C] && t.prev == 0x0C &&
        t.status == 0x00000C2C) = true := by decide

/-- V-RX-5, last byte, under APPEND_FIRST: the 0x0C of the second marker is captured. -/
theorem test_rx_byte_closing_marker_append_first :
    nextIs (exec (.rxByte 0x0C)
        { State.powerOn { pRef with captureOrder := .appendFirst } with
          prev := 0x0F, rxb := .ofBytes [0x0F, 0x0C, 0x0F], cap := .ofBytes [0x0F], capturing := true, syncCount := 1 })
      (fun t => t.cap == .ofBytes [0x0F, 0x0C] && !t.capturing && t.syncCount == 2 && t.rxb.len == 4) = true := by
  decide

/-- V-ERR-2. -/
theorem test_rx_err :
    nextIs (exec .rxErr (waitingState .live [0x10] [] 0)) (fun t =>
      t.phase == .fatal && t.status == 0x00008623 && t.rxb.len == 1 && !t.refused) = true := by decide

/-- V-ERR-4: in FATAL a second RX_ERR is refused. -/
theorem test_rx_err_refused :
    nextIs (exec .rxErr (State.reset.takeError .transportReadError)) (fun t =>
      t.status == 0x00008E03 && t.refused) = true := by decide

/-- V-DEC-1: the configuration record, and NO_CAPTURE. -/
theorem test_wait_done_config :
    nextIs (exec .waitDone (waitingState .cfg configResponse [] 0)) (fun t =>
      t.status == 0x00021222 && t.readCfg .version == some (.u16 0x0001) &&
      t.readCfg .sensorType == some (.tag8 [0x50, 0x52, 0x45, 0x4D, 0x49, 0x45, 0x52, 0x00]) &&
      t.readCfg .negZeroSupp == some (.f32bits 0xBE800000) && t.readCfg .baudRate == some (.u16 0x9600) &&
      t.readCfg .warmupTime == some (.u16 0x001E)) = true := by decide +kernel

/-- V-DEC-11 with the capture of program P3: the record with a trailer mismatch, and the reading of V-AN-5. -/
theorem test_wait_done_live_and_analog :
    nextIs (exec .waitDone (waitingState .live (liveResponse.set 36 0x00) analogCapture 2)) (fun t =>
      t.trailerMismatch && t.resCode == .liveRecord && t.readLive .uptime == some (.u32 0x00010203) &&
      t.readLive .refMax == some (.u16 0x0400) && t.readLive .temperature == some (.f32bits 0x41C80000) &&
      t.analog == some ⟨8192, 18204, 24576, 384, 0x3FE8000000000000, 0x4038FF8800000001, 0x405490BEAF12CFA6,
        0x4078000000000000⟩) = true := by decide +kernel

/-- P4, last event: RESET leaves FATAL; the mark stays. -/
theorem test_reset_leaves_fatal :
    nextIs (exec .reset ({ waitingState .live [0x10, 0x1A] [] 0 with refused := true }.takeError .transportReadError))
      (fun t => t.status == 0x00000C00 && t.txLog == [] && t.rxb.len == 0 && t.refused) = true := by decide

/-- V-RST-3: RESET clears `prev`. -/
theorem test_reset_clears_prev :
    nextIs (exec .reset { State.reset with prev := 0x0F }) (fun t => t.prev == 0x00) = true := by decide

/-- V-RSV-5: a reserved word is refused, even in FATAL. -/
theorem test_step_refuses_reserved_word :
    nextIs (step ((State.reset.takeError .transportReadError).withFetchWord 16 0xF01)) (fun t =>
      t.phase == .fatal && t.refused && t.inputs == []) = true := by decide

/-! ### Byte order: V-DEC-18 -/

theorem test_big_endian_fields :
    assembleField .be .f32bits [0x00, 0x00, 0x80, 0x3F] = some (.f32bits 0x0000803F) ∧
    assembleField .be .u16 [0x34, 0x12] = some (.u16 0x3412) ∧
    assembleField .be .u32 [0x03, 0x02, 0x01, 0x00] = some (.u32 0x03020100) := by decide

/-! ### The checksum: V-CK-6 and V-CK-7 -/

theorem test_checksum_wraps :
    checksum16 (List.replicate 257 0xFF) = 0xFFFF ∧ checksum16 (List.replicate 258 0xFF) = 0x00FE := by
  decide +kernel

/-! ### Binary64: V-AN and its intermediate values -/

/-- V-AN-1. -/
theorem test_analog_all_zero :
    tempOf 0 = 0xC049000000000000 ∧ humNumerator 0 = 0xC037D21CFB2B78C1 ∧ humDivisor (tempOf 0) = 0x3FF29A027525460B ∧
    humOf 0 (tempOf 0) = 0xC0347D3CD1E0400D := by decide +kernel

/-- V-AN-2. -/
theorem test_analog_light : pair7 0x0A 0x05 = 1285 ∧ lightOf 1285 = 0x3FBE1E0000000000 := by decide +kernel

/-- V-AN-4, the largest values. -/
theorem test_analog_largest :
    lightOf 16383 = 0x3FF7FFA000000000 ∧ tempOf 65532 = 0x406B7F7900000001 ∧
    humOf 65532 (tempOf 65532) = 0x407BF4C7D4E27CC4 ∧ humOf 0 (tempOf 65532) = 0xC0448E1D6144A725 := by
  decide +kernel

/-- Rounding, specials and signs: a tie to even, the smallest subnormal halved, overflow, 1/0 and 0·(-1) (IEEE-754). -/
theorem test_binary64_corners :
    fadd 0x4340000000000000 0x3FF0000000000000 = 0x4340000000000000 ∧
    fdiv 0x0000000000000001 0x4000000000000000 = 0x0000000000000000 ∧
    fmul 0x7FEFFFFFFFFFFFFF 0x4000000000000000 = 0x7FF0000000000000 ∧
    fdiv 0x3FF0000000000000 0x0000000000000000 = 0x7FF0000000000000 ∧
    fmul 0x0000000000000000 0xBFF0000000000000 = 0x8000000000000000 ∧
    fsub 0x3FF0000000000000 0x3FF0000000000000 = 0x0000000000000000 := by decide +kernel

/-! ### The text form -/

/-- R89, R90: a comment, the list form, `sync` and `rxframe`. -/
theorem test_text_lines :
    parseLine ['r', 'x', ' ', '0', 'x', '1', '0', ',', '0', 'x', '1', 'a', ' ', ';', 'c'] = some (.rxList [0x10, 0x1A]) ∧
    parseLine ['s', 'y', 'n', 'c'] = some .sync ∧
    parseLine (['r', 'x', 'f', 'r', 'a', 'm', 'e', ' '] ++ ['F', 'R', 'A', 'M', 'E', '(', 'L', 'I', 'V', 'E', ')']) =
      some (.rxFrame .live) ∧
    parseLine ['h', 'a', 'l', 't'] = none := by decide

/-! ### Every statement with hypotheses: states that meet them -/

/-- WAITING, no byte received. -/
def sNoBytes : State := waitingState .cfg [] [] 0

theorem sNoBytes_inv : sNoBytes.Inv := by
  constructor <;> decide +kernel

/-- WAITING with CR received. -/
def sConfig : State := waitingState .cfg configResponse [] 0

theorem sConfig_inv : sConfig.Inv := by
  constructor <;> decide +kernel

/-- WAITING with the first 81 bytes of CR. -/
def sConfigExact : State := waitingState .cfg (configResponse.take 81) [] 0

theorem sConfigExact_inv : sConfigExact.Inv := by
  constructor <;> decide +kernel

/-- WAITING with the first 80 bytes of CR (V-DEC-13). -/
def sConfigShort : State := waitingState .cfg (configResponse.take 80) [] 0

theorem sConfigShort_inv : sConfigShort.Inv := by
  constructor <;> decide +kernel

/-- WAITING with LR received. -/
def sLive : State := waitingState .live liveResponse [] 0

theorem sLive_inv : sLive.Inv := by
  constructor <;> decide +kernel

/-- WAITING with the first 35 bytes of LR (V-DEC-10). -/
def sLive35 : State := waitingState .live (liveResponse.take 35) [] 0

theorem sLive35_inv : sLive35.Inv := by
  constructor <;> decide +kernel

/-- WAITING after the simple command with 37 bytes of LR. -/
def sLives37 : State := waitingState .lives (liveResponse.take 37) [] 0

theorem sLives37_inv : sLives37.Inv := by
  constructor <;> decide +kernel

/-- WAITING with the first 34 bytes of LR. -/
def sLive34 : State := waitingState .live (liveResponse.take 34) [] 0

theorem sLive34_inv : sLive34.Inv := by
  constructor <;> decide +kernel

/-- WAITING with the first 4 bytes of LR (V-DEC-8). -/
def sLive4 : State := waitingState .live (liveResponse.take 4) [] 0

theorem sLive4_inv : sLive4.Inv := by
  constructor <;> decide +kernel

/-- WAITING with 5 bytes of LR5. -/
def sVersion5 : State := waitingState .live ((liveResponse.set 3 0x05).take 5) [] 0

theorem sVersion5_inv : sVersion5.Inv := by
  constructor <;> decide +kernel

/-- WAITING with one byte (V-DEC-14). -/
def sOneByte : State := waitingState .live [0x10] [] 0

theorem sOneByte_inv : sOneByte.Inv := by
  constructor <;> decide +kernel

/-- WAITING with a bad SDF byte (V-DEC-5). -/
def sBadSdf : State := waitingState .live (liveResponse.set 1 0x1B) [] 0

theorem sBadSdf_inv : sBadSdf.Inv := by
  constructor <;> decide +kernel

/-- WAITING with 33 captured bytes (V-AN-6). -/
def sCapture33 : State := waitingState .cfg [0x0F, 0x0C] (0x0C :: List.replicate 32 0x00) 1

theorem sCapture33_inv : sCapture33.Inv := by
  constructor <;> decide +kernel

/-- WAITING with 34 captured bytes (V-AN-7). -/
def sCapture34 : State := waitingState .cfg [0x0F, 0x0C] (0x0C :: List.replicate 33 0x00) 1

theorem sCapture34_inv : sCapture34.Inv := by
  constructor <;> decide +kernel

/-- WAITING with 34 captured bytes that differ in bit 7 alone (V-AN-3). -/
def sCapture34b : State := waitingState .live [0x0F, 0x0C] (0x0C :: List.replicate 33 0x80) 1

theorem sCapture34b_inv : sCapture34b.Inv := by
  constructor <;> decide +kernel

/-- WAITING after two markers (V-RX-5). -/
def sTwoMarkers : State := waitingState .live [0x0F, 0x0C, 0x0F, 0x0C] [0x0C, 0x0F] 2

theorem sTwoMarkers_inv : sTwoMarkers.Inv := by
  constructor <;> decide +kernel

/-- WAITING with a receive buffer of 81 bytes that is full. -/
def sFullReceive : State := { waitingState .cfg (List.replicate 81 0x00) [] 0 with params := { pRef with rxCap := 81 } }

theorem sFullReceive_inv : sFullReceive.Inv := by
  constructor <;> decide +kernel

theorem witness_StepRunsTheDecodedEvent :
    let s : State := { State.reset with inputs := [0x001] }
    s.params.wf = true ∧ s.inputs = 0x001 :: [] ∧ decode 0x001 = .event .cmdReadLive := by decide

theorem witness_ReservedWordIsRefused :
    let op : EventWord → Nat := fun w => (w.extractLsb' 8 4).toNat
    pRef.wf = true ∧ op 0x400 = 4 ∧ op 0xEFF = 14 ∧
    ((0x004#12).extractLsb' 8 4 = 0#4 ∧ (0x004#12).extractLsb' 2 6 ≠ 0#6) ∧
    ((0x003#12).extractLsb' 8 4 = 0#4 ∧ (0x003#12).extractLsb' 0 2 = 3#2) ∧
    ((0x201#12).extractLsb' 8 4 = 2#4 ∧ (0x201#12).extractLsb' 0 8 ≠ 0#8) ∧
    ((0x301#12).extractLsb' 8 4 = 3#4 ∧ (0x301#12).extractLsb' 0 8 ≠ 0#8) ∧
    ((0xF01#12).extractLsb' 8 4 = 15#4 ∧ (0xF01#12).extractLsb' 0 8 ≠ 0#8) := by decide

theorem witness_IllFormedParametersHaveNoStep :
    (State.powerOn { pRef with rxCap := 80 }).params.wf = false ∧ (State.powerOn { pRef with rxCap := 81 }).params.wf = true := by decide

theorem witness_DecoderFollowsTheOpcodeTable :
    decode 0x1FF = .event (.rxByte 0xFF) ∧ (⟨0x100, 0xF00⟩ : TableRow) ∈ opcodeTable ∧ 0x1FF#12 &&& 0xF00#12 = 0x100#12 := by decide

theorem witness_LaterEventsDoNotMatter :
    { State.reset with inputs := [0x001] }.inputs ≠ [] := by decide

theorem witness_FrameProperties :
    pRef.wf = true ∧ State.reset.phase = .idle ∧ (nextState? (exec (commandEvent .cfg) State.reset)).isSome = true ∧
    sNoBytes.phase ≠ .idle ∧ (nextState? (exec (commandEvent .live) sNoBytes)).isSome = true ∧
    (nextState? (execAll [.cmdReadLive, .rxByte 0x10, .cmdReadConfig] State.reset)).isSome = true := by decide

theorem witness_ChecksumIsSumModulo65536 :
    (List.replicate 257 0xFF#8).length ≤ 257 ∧ pRef.wf = true := by decide +kernel

theorem witness_CommandEventsEmitTheirFrame :
    State.reset.phase = .idle ∧ sNoBytes.phase ≠ .idle := by decide

theorem witness_AtMostOneFrameAnInvocation :
    pRef.wf = true ∧
    (nextState? (execAll [.cmdReadLive, .reset, .cmdReadConfig] (State.powerOn pRef))).isSome = true := by decide

theorem witness_RxByteToggleFirst :
    sNoBytes.params.captureOrder = .toggleFirst ∧ sNoBytes.phase ≠ .fatal ∧
    (sNoBytes.takeError .transportReadError).phase = .fatal ∧
    (sNoBytes.takeError .transportReadError).params.captureOrder = .toggleFirst := by decide

theorem witness_RxByteAppendFirst :
    let s := State.powerOn { pRef with captureOrder := .appendFirst }
    s.params.captureOrder = .appendFirst ∧ s.phase ≠ .fatal := by decide

theorem witness_ByteSpacesAreAppendOnly :
    sFullReceive.Inv ∧ (nextState? (exec (.rxByte 0x55) sTwoMarkers)).isSome = true ∧ sTwoMarkers.phase ≠ .fatal ∧
    sTwoMarkers.rxb.len < sTwoMarkers.params.rxCap ∧ sFullReceive.rxb.len = sFullReceive.params.rxCap ∧
    (nextState? (exec (.rxByte 0x55) sFullReceive)).isSome = true := ⟨sFullReceive_inv, by decide +kernel⟩

theorem witness_DetectorTogglesAtMostTwice :
    (Instr.rxByte 0x0C) ≠ .reset ∧ (nextState? (exec (.rxByte 0x0C) { sCapture34 with prev := 0x0F })).isSome = true ∧
    (nextState? (exec (.rxByte 0x0C) sTwoMarkers)).isSome = true := by decide +kernel

theorem witness_CaptureIsOneRun :
    sTwoMarkers.Inv ∧ sTwoMarkers.syncCount = 2 ∧ (nextState? (execAll [.rxByte 0x0F, .rxByte 0x0C] sTwoMarkers)).isSome = true ∧
    sCapture34.Inv ∧ sCapture34.syncCount = 1 ∧ nextIs (execAll [.rxByte 0x55] sCapture34) (fun t => t.syncCount == 1) = true :=
  ⟨sTwoMarkers_inv, by decide, by decide +kernel, sCapture34_inv, by decide, by decide +kernel⟩

theorem witness_RxErrIsFatal :
    sNoBytes.phase ≠ .fatal ∧ (sNoBytes.takeError .transportReadError).phase = .fatal := by decide

theorem witness_PhaseOnlyMovesForward :
    nextIs (exec .cmdReadConfig State.reset) (fun t => t.phase == .waiting) = true ∧
    nextIs (exec .waitDone sNoBytes) (fun t => t.phase == .done) = true ∧
    nextIs (exec .rxErr sNoBytes) (fun t => t.phase == .fatal) = true ∧
    nextIs (exec .reset sNoBytes) (fun t => t.phase == .idle) = true := by decide

theorem witness_RefusedEventsChangeNothing :
    sNoBytes.phase ≠ .idle ∧ State.reset.phase ≠ .waiting ∧ (sNoBytes.takeError .transportReadError).phase = .fatal ∧
    pRef.wf = true ∧ decode 0x400 = .reserved .op := by decide

theorem witness_AdmissionDependsOnPhaseAlone :
    sNoBytes.Inv ∧ State.Inv sLive := ⟨sNoBytes_inv, sLive_inv⟩

theorem witness_FatalRefusesAllButReset :
    sNoBytes.phase ≠ .fatal ∧ (sNoBytes.takeError .transportReadError).phase = .fatal ∧ Instr.waitDone ≠ .reset := by decide

theorem witness_RefusedMarkIsSticky :
    admitted .waitDone State.reset.phase = false ∧ (nextState? (exec .waitDone State.reset)).isSome = true ∧
    decode 0x400 = .reserved .op ∧ (nextState? (step { State.reset with inputs := [0x400] })).isSome = true ∧
    (nextState? (step { State.reset with refused := true, inputs := [0xF00] })).isSome = true := by decide

theorem witness_SingleWriters :
    agentOf .waitDone = .coordinator ∧ (nextState? (exec .waitDone sNoBytes)).isSome = true ∧
    agentOf .rxErr = .receiver ∧ (nextState? (exec .rxErr sNoBytes)).isSome = true ∧
    (nextState? (exec (.rxByte 0x00) sNoBytes)).isSome = true := by decide

theorem witness_ChecksumMismatchNeverWritten :
    nextIs (exec (.rxByte 0x00) { State.reset with resCode := .checksumMismatch }) (fun t => t.resCode == .checksumMismatch) = true := by decide

theorem witness_WaitDoneCompletes :
    sConfig.Inv ∧ sConfig.phase = .waiting := ⟨sConfig_inv, by decide⟩

theorem witness_NoByteGivesNoResponse :
    sNoBytes.Inv ∧ sNoBytes.phase = .waiting ∧ sNoBytes.responseObserved = false := ⟨sNoBytes_inv, by decide, by decide⟩

theorem witness_BadMarkersGiveMalformedFrame :
    (sOneByte.Inv ∧ sOneByte.phase = .waiting ∧ sOneByte.rxb = .ofBytes [0x10] ∧ ([0x10#8] : List Byte).length < 2) ∧
    (sCapture34.Inv ∧ sCapture34.phase = .waiting ∧ sCapture34.rxb = .ofBytes [0x0F, 0x0C]) ∧
    (sBadSdf.Inv ∧ sBadSdf.phase = .waiting ∧ sBadSdf.rxb = .ofBytes (liveResponse.set 1 0x1B) ∧
      (liveResponse.set 1 0x1B)[1]? ≠ some sBadSdf.params.sdfByte) :=
  ⟨⟨sOneByte_inv, by decide, by decide, by decide⟩, ⟨sCapture34_inv, by decide, by decide⟩,
    ⟨sBadSdf_inv, by decide, rfl, by decide⟩⟩

theorem witness_ShortRecordGivesMalformedFrame :
    (sConfigShort.Inv ∧ sConfigShort.phase = .waiting ∧ sConfigShort.cmdLatched = some .cfg ∧
      sConfigShort.rxb = .ofBytes (configResponse.take 80) ∧ (configResponse.take 80)[0]? = some 0x10 ∧
      (configResponse.take 80)[1]? = some sConfigShort.params.sdfByte ∧ (configResponse.take 80).length < 81) ∧
    (sLive4.Inv ∧ sLive4.phase = .waiting ∧ sLive4.cmdLatched ≠ some .cfg ∧
      sLive4.rxb = .ofBytes (liveResponse.take 4) ∧ (liveResponse.take 4)[0]? = some 0x10 ∧
      (liveResponse.take 4)[1]? = some sLive4.params.sdfByte ∧ (liveResponse.take 4).length < 5) ∧
    (sLive34.Inv ∧ sLive34.phase = .waiting ∧ sLive34.cmdLatched ≠ some .cfg ∧
      sLive34.rxb = .ofBytes (liveResponse.take 34) ∧ (liveResponse.take 34).length < 35 ∧
      u16of .le ((liveResponse.take 34).getD 3 0) ((liveResponse.take 34).getD 4 0) = 4) :=
  ⟨⟨sConfigShort_inv, by decide, by decide, rfl, by decide, by decide, by decide⟩,
    ⟨sLive4_inv, by decide, by decide, rfl, by decide, by decide, by decide⟩,
    ⟨sLive34_inv, by decide, by decide, rfl, by decide, by decide⟩⟩

theorem witness_OtherVersionIsUnsupported :
    sVersion5.Inv ∧ sVersion5.phase = .waiting ∧ sVersion5.rxb = .ofBytes ((liveResponse.set 3 0x05).take 5) ∧
    ((liveResponse.set 3 0x05).take 5)[0]? = some 0x10 ∧
    ((liveResponse.set 3 0x05).take 5)[1]? = some sVersion5.params.sdfByte ∧
    5 ≤ ((liveResponse.set 3 0x05).take 5).length ∧ sVersion5.cmdLatched ≠ some .cfg ∧
    u16of sVersion5.params.recOrder (((liveResponse.set 3 0x05).take 5).getD 3 0)
      (((liveResponse.set 3 0x05).take 5).getD 4 0) ≠ 4 :=
  ⟨sVersion5_inv, by decide, rfl, by decide, by decide, by decide, by decide, by decide⟩

theorem witness_ConfigRecordIsUnpacked :
    sConfigExact.Inv ∧ sConfigExact.phase = .waiting ∧ sConfigExact.cmdLatched = some .cfg ∧
    sConfigExact.rxb = .ofBytes (configResponse.take 81) ∧ (configResponse.take 81)[0]? = some 0x10 ∧
    (configResponse.take 81)[1]? = some sConfigExact.params.sdfByte ∧
    3 + layoutSize sConfigExact.params.configLayout ≤ (configResponse.take 81).length :=
  ⟨sConfigExact_inv, by decide, by decide, rfl, by decide, by decide, by decide⟩

theorem witness_LiveRecordIsUnpacked :
    (sLive35.Inv ∧ sLive35.phase = .waiting ∧ sLive35.cmdLatched = some .live ∧
      sLive35.rxb = .ofBytes (liveResponse.take 35) ∧ (liveResponse.take 35)[0]? = some 0x10 ∧
      (liveResponse.take 35)[1]? = some sLive35.params.sdfByte ∧ (liveResponse.take 35).length = 35 ∧
      u16of sLive35.params.recOrder ((liveResponse.take 35).getD 3 0) ((liveResponse.take 35).getD 4 0) = 4) ∧
    (sLives37.Inv ∧ sLives37.phase = .waiting ∧ sLives37.cmdLatched = some .lives ∧
      sLives37.rxb = .ofBytes (liveResponse.take 37) ∧ (liveResponse.take 37).length = 37 ∧
      (liveResponse.take 37)[35]? = some 0x10 ∧ (liveResponse.take 37)[36]? = some sLives37.params.eofByte) :=
  ⟨⟨sLive35_inv, by decide, by decide, rfl, by decide, by decide, by decide, by decide⟩,
    ⟨sLives37_inv, by decide, by decide, rfl, by decide, by decide, by decide⟩⟩

/-- A ConfigRecord of the short layout of `test_wf_accepts_other_layout`. -/
def shortRecord : Record ConfigField := [(.version, .u16 0x0102), (.mode, .u16 0x0304), (.power, .f32bits 0x40533333)]

/-- P_REF with that layout, and room for a whole live frame. -/
def shortParams : Params :=
  { pRef with configLayout := [⟨.version, 0, .u16⟩, ⟨.mode, 2, .u16⟩, ⟨.power, 4, .f32bits⟩] }

/-- WAITING under that layout with the packed record received. -/
def sRoundTrip : State :=
  { waitingState .cfg ([0x10, 0x1A, 0x08] ++ pack .le shortRecord ++ [0x10]) [] 0 with params := shortParams }

theorem sRoundTrip_inv : sRoundTrip.Inv := by
  constructor <;> decide +kernel

theorem witness_UnpackInvertsPack :
    contiguousFrom 0 shortParams.configLayout = true ∧ hasShape shortParams.configLayout shortRecord = true ∧
    hasShape liveLayout (liveLayout.map (fun row => (row.field,
      (if row.type = .u16 then .u16 7 else if row.type = .u32 then .u32 9 else .f32bits 8 : FieldValue)))) = true := by
  decide

theorem witness_ConfigResponseRoundTrip :
    sRoundTrip.Inv ∧ sRoundTrip.phase = .waiting ∧ sRoundTrip.cmdLatched = some .cfg ∧
    hasShape sRoundTrip.params.configLayout shortRecord = true ∧
    sRoundTrip.rxb = .ofBytes ([0x10, sRoundTrip.params.sdfByte, 0x08] ++
      pack sRoundTrip.params.recOrder shortRecord ++ [0x10]) :=
  ⟨sRoundTrip_inv, by decide, by decide, by decide, rfl⟩

theorem witness_ReceiveIndexTwoIsNotRead :
    sLive.rxb = .ofBytes (0x10 :: 0x1A :: 0x20 :: liveResponse.drop 3) ∧
    (nextState? (exec .waitDone sLive)).isSome = true ∧
    (nextState? (exec .waitDone { sLive with rxb := .ofBytes (0x10 :: 0x1A :: 0xFF :: liveResponse.drop 3) })).isSome =
      true :=
  ⟨rfl, by decide +kernel, by decide +kernel⟩

theorem witness_BytesPastEightyOneDoNotMatter :
    sConfig.Inv ∧ sConfig.phase = .waiting ∧ sConfig.params.configLayout = defaultConfigLayout ∧
    sConfig.rxb = .ofBytes configResponse ∧ configResponse.take 81 = (configResponse.take 81 ++ [0x55]).take 81 :=
  ⟨sConfig_inv, by decide, rfl, rfl, by decide⟩

theorem witness_SnapshotHoldsTheBytesBeforeWait :
    sFullReceive.Inv ∧ sFullReceive.phase = .waiting ∧ sFullReceive.rxb = .ofBytes (List.replicate 81 0x00) :=
  ⟨sFullReceive_inv, by decide, rfl⟩

theorem witness_RecordsPresentExactlyWithTheirCode :
    pRef.wf = true ∧ (nextState? (execAll [.cmdReadConfig, .waitDone] (State.powerOn pRef))).isSome = true := by
  decide

theorem witness_AnalogPresence :
    (sNoBytes.Inv ∧ sNoBytes.phase = .waiting ∧ sNoBytes.syncCount = 0) ∧
    (sCapture33.Inv ∧ sCapture33.phase = .waiting ∧ sCapture33.syncCount ≠ 0 ∧ sCapture33.cap.len = 33) ∧
    (sCapture34.Inv ∧ sCapture34.phase = .waiting ∧ sCapture34.syncCount ≠ 0 ∧ sCapture34.cap.len = 34) :=
  ⟨⟨sNoBytes_inv, by decide, by decide⟩, ⟨sCapture33_inv, by decide, by decide, by decide⟩,
    ⟨sCapture34_inv, by decide, by decide, by decide⟩⟩

theorem witness_AnalogReadingFormulas :
    sCapture34.Inv ∧ sCapture34.phase = .waiting ∧ sCapture34.syncCount ≠ 0 ∧
    sCapture34.cap = .ofBytes (0x0C :: List.replicate 33 0x00) ∧
    34 ≤ (0x0C :: List.replicate 33 0x00 : List Byte).length :=
  ⟨sCapture34_inv, by decide, by decide, rfl, by decide⟩

theorem witness_AnalogIndependentOfRecord :
    sCapture34.Inv ∧ sCapture34.phase = .waiting ∧
    { sCapture34 with rxb := .ofBytes [0x10, 0x1A, 0x20] }.Inv ∧
    { sCapture34 with rxb := .ofBytes [0x10, 0x1A, 0x20] }.phase = .waiting :=
  ⟨sCapture34_inv, by decide, by constructor <;> decide +kernel, by decide⟩

theorem witness_AnalogReadsSevenBitsOfEightBytes :
    sCapture34.Inv ∧ sCapture34b.Inv ∧ sCapture34.phase = .waiting ∧ sCapture34b.phase = .waiting ∧
    sCapture34.syncCount = sCapture34b.syncCount ∧ sCapture34.cap = .ofBytes (0x0C :: List.replicate 33 0x00) ∧
    sCapture34b.cap = .ofBytes (0x0C :: List.replicate 33 0x80) ∧
    (∀ k ∈ [2, 3, 8, 9, 10, 11, 32, 33], (0x0C :: List.replicate 33 0x00).getD k 0#8 &&& 0x7F#8 =
      (0x0C :: List.replicate 33 0x80).getD k 0#8 &&& 0x7F#8) :=
  ⟨sCapture34_inv, sCapture34b_inv, by decide, by decide, by decide, rfl, rfl, by decide⟩

theorem witness_LightAndLelAreExact : (16383 : Nat) ≤ 16383 ∧ (254 : Nat) ≤ 254 := by decide

theorem witness_TemperatureIsMonotone : (0 : Nat) ≤ 16383 ∧ (16383 : Nat) ≤ 16383 := by decide

theorem witness_HumidityIsInRange : (0 : Nat) ≤ 16383 ∧ (16383 : Nat) ≤ 16383 := by decide

theorem witness_AllZeroCaptureReading :
    sCapture34.Inv ∧ sCapture34.phase = .waiting ∧ sCapture34.syncCount ≠ 0 ∧
    sCapture34.cap = .ofBytes (0x0C :: List.replicate 33 0x00) :=
  ⟨sCapture34_inv, by decide, by decide, rfl⟩

theorem witness_NoEventReadsUnfilledBytes :
    sLive.Inv ∧ ByteSpace.empty.len < 0 + 1 ∧ 0 + 39 ≤ liveResponse.length := ⟨sLive_inv, by decide, by decide⟩

theorem witness_InvariantHoldsAtReset : pRef.wf = true ∧ shortParams.wf = true := by decide

theorem witness_StepKeepsInvariant :
    { sLive with inputs := [0x300] }.Inv ∧ (nextState? (step { sLive with inputs := [0x300] })).isSome = true :=
  ⟨by constructor <;> decide +kernel, by decide +kernel⟩

theorem witness_EveryInvocationEnds : sOneByte.Inv ∧ sOneByte.phase = .waiting := ⟨sOneByte_inv, by decide⟩

/-- DONE with a LiveDataRecord. -/
def sLiveDone : State :=
  { sLive with
    phase := .done
    rxs := sLive.rxb
    resCode := .liveRecord
    anCode := .noCapture
    live := some (liveLayout.map (fun row => (row.field,
      (if row.type = .u16 then .u16 7 else if row.type = .u32 then .u32 9 else .f32bits 8 : FieldValue)))) }

/-- DONE with a ConfigRecord of another layout. -/
def sConfigDone : State :=
  { sRoundTrip with
    phase := .done
    rxs := sRoundTrip.rxb
    resCode := .configRecord
    anCode := .noCapture
    cfg := some shortRecord }

theorem witness_ReadOnlyViews :
    sLiveDone.Inv ∧ sLiveDone.live.isSome = true ∧ sLiveDone.cfg = none ∧ sConfigDone.Inv ∧
    sConfigDone.cfg = some shortRecord ∧ sConfigDone.live = none ∧ sLiveDone.rxb.len < 2 ^ 32 ∧
    ({ sLiveDone with rxb := ⟨[], 2 ^ 32 - 1⟩ } : State).rxb.len < 2 ^ 32 :=
  ⟨by constructor <;> decide +kernel, by decide, rfl, by constructor <;> decide +kernel, rfl, rfl, by decide, by decide⟩

end Sys2Proof.Tests
end

