-- ==== Sys2Proof/Proofs/Scope.lean ====
section
/-! PROOFS. The scope family (00_scope.md): what a well-formed parameter set is, and which step a state has. -/

namespace Sys2Proof

/-- R9 (a) for one command, with the bytes of its frame through EOF written out (R76). -/
theorem checksumAgrees_iff (p : Params) (c : Cmd) :
    checksumAgrees p c = true ↔ (p.cmd c).ckLit =
      checksum16 ([0x10#8, (p.cmd c).cmdByte] ++ (p.cmd c).payload ++ [0x10#8, p.eofByte]) :=
  beq_iff_eq

/-- The smallest admitted receive buffer is the record's offset in its frame, 3, plus the record's size (R9 (b)). -/
theorem Params.rxMinCap_eq (p : Params) : p.rxMinCap = 3 + layoutSize p.configLayout := rfl

/-- The clauses of R9, with (a) as one statement over the commands. -/
theorem Params.wf_iff (p : Params) :
    p.wf = true ↔ (∀ c, checksumAgrees p c = true) ∧ p.rxMinCap ≤ p.rxCap ∧
      contiguousFrom 0 p.configLayout = true ∧ keepsFieldOrder p.configLayout = true := by
  have hcmds : (∀ c, checksumAgrees p c = true) ↔
      checksumAgrees p .cfg = true ∧ checksumAgrees p .live = true ∧ checksumAgrees p .lives = true := by
    constructor
    · intro h
      exact ⟨h .cfg, h .live, h .lives⟩
    · rintro ⟨hcfg, hlive, hlives⟩ c
      cases c with
      | cfg => exact hcfg
      | live => exact hlive
      | lives => exact hlives
  simp only [Params.wf, Bool.and_eq_true, decide_eq_true_eq, hcmds, and_assoc]

end Sys2Proof

namespace Sys2Proof.Machine

/-- A state with ill-formed parameters has nothing to take (R9). -/
theorem fetch_of_illFormed {s : State} (h : s.params.wf = false) : fetch s = .stopped .illFormedParams := by
  simp [fetch, h]

/-- A delivered word that is an event's word is taken as that event (R64, R70). -/
theorem fetch_of_decode_event {s : State} {w : EventWord} {ws : List EventWord} {i : Instr}
    (hp : s.params.wf = true) (hq : s.inputs = w :: ws) (hd : decode w = .event i) :
    fetch s = .event i { s with inputs := ws } := by
  simp [fetch, hp, hq, hd]

/-- What a step does with a taken event (R2). -/
theorem step_of_fetch_event {s t : State} {i : Instr} (h : fetch s = .event i t) : step s = exec i t := by
  simp [step, h]

/-- Where there is nothing to take, the step is refused by that name. -/
theorem step_of_fetch_stopped {s : State} {why : Refusal} (h : fetch s = .stopped why) :
    step s = .refused why := by
  simp [step, h]

end Sys2Proof.Machine

namespace Sys2Proof.Proofs

open Sys2Proof Sys2Proof.Machine

/-- Settles O3: R9's clauses are those of `Params.wf_iff`, and an ill-formed set stops the fetch. -/
theorem illFormedParametersHaveNoStep : Obligations.IllFormedParametersHaveNoStep := by
  constructor
  · intro p
    simp only [Params.wf_iff, checksumAgrees_iff, Params.rxMinCap_eq]
  · intro s h
    exact step_of_fetch_stopped (fetch_of_illFormed h)

/-- Settles O1: the fetch takes the event of the oldest word, and the step runs what the fetch took. -/
theorem stepRunsTheDecodedEvent : Obligations.StepRunsTheDecodedEvent := by
  intro s w ws i hp hq hd
  exact step_of_fetch_event (fetch_of_decode_event hp hq hd)

end Sys2Proof.Proofs
end

/-! PROOFS. The state family (10_state.md): what an event does to the state, the invariant every step keeps, the
phases, the mark `refused`, and the read-only views. -/

namespace Sys2Proof.Machine

/-! ### What an event does -/

/-- What each event does to the state, one constructor per outcome: the refusal of an event its phase does not admit,
and the effect of an admitted one (R105, R120, R127, R140, R198, R220). -/
inductive EventEffect (s : State) : Instr → State → Prop where
  | refused {i : Instr} (hphase : admitted i s.phase = false) : EventEffect s i s.markRefused
  | command (c : Cmd) (hidle : s.phase = .idle) :
    EventEffect s (commandEvent c) { s.emit (frame s.params c) with cmdLatched := some c, phase := .waiting }
  | byte (b : Byte) (hphase : s.phase ≠ .fatal) : EventEffect s (.rxByte b) (receive b s)
  | readError (hphase : s.phase ≠ .fatal) : EventEffect s .rxErr (s.takeError .transportReadError)
  | waitDone (hwaiting : s.phase = .waiting) {u v : State} (hrecord : decodeRecord s.snapshot = .ok u)
    (hanalog : deriveAnalog u = .ok v) : EventEffect s .waitDone { v with phase := .done }
  | reset : EventEffect s .reset s.resetAll

theorem admitted_commandEvent (c : Cmd) (ph : Phase) : admitted (commandEvent c) ph = (ph == .idle) := by
  cases c <;> rfl

theorem runCommand_effect {c : Cmd} {s t : State} (h : runCommand c s = .next t) :
    EventEffect s (commandEvent c) t := by
  rcases runCommand_cases h with ⟨hidle, rfl⟩ | ⟨hbusy, rfl⟩
  · exact .command c hidle
  · exact .refused (by simpa [admitted_commandEvent] using hbusy)

/-- Every next state of an event is one of the effects. -/
theorem exec_effect {i : Instr} {s t : State} (h : exec i s = .next t) : EventEffect s i t := by
  cases i with
  | cmdReadConfig => exact runCommand_effect (c := .cfg) h
  | cmdReadLive => exact runCommand_effect (c := .live) h
  | cmdReadLiveSimple => exact runCommand_effect (c := .lives) h
  | rxByte b =>
    rcases execRxByte_cases h with ⟨hfatal, rfl⟩ | ⟨hphase, rfl⟩
    · exact .refused (by simp [admitted, hfatal])
    · exact .byte b hphase
  | rxErr =>
    rcases execRxErr_cases h with ⟨hfatal, rfl⟩ | ⟨hphase, rfl⟩
    · exact .refused (by simp [admitted, hfatal])
    · exact .readError hphase
  | waitDone =>
    rcases execWaitDone_cases h with ⟨hphase, rfl⟩ | ⟨hwaiting, u, hu, v, hv, rfl⟩
    · exact .refused (by simpa [admitted] using hphase)
    · exact .waitDone hwaiting hu hv
  | reset => cases h; exact .reset

/-- A property that every event keeps holds after every run of events (R64). -/
theorem execAll_induction {P : State → Prop} (hstep : ∀ i s t, exec i s = .next t → P s → P t) {is : List Instr}
    {s t : State} (h : execAll is s = .next t) (hs : P s) : P t := by
  induction is generalizing s with
  | nil => cases h; exact hs
  | cons i is ih =>
    unfold execAll at h
    split at h
    case h_1 u hu => exact ih h (hstep i s u hu hs)
    case h_2 => cases h
    case h_3 => cases h

/-- No run of events changes the parameters. -/
theorem execAll_params {is : List Instr} {s t : State} (h : execAll is s = .next t) : t.params = s.params :=
  execAll_induction (P := fun u => u.params = s.params)
    (fun _ _ _ hexec hparams => (exec_params_inputs hexec).1.trans hparams) h rfl

/-! ### Events that leave the invariant's registers alone -/

/-- The invariant does not read the queue of delivered events. -/
theorem State.Inv.with_inputs {s : State} (h : s.Inv) (ws : List EventWord) : State.Inv { s with inputs := ws } :=
  { h with }

/-- The invariant does not read the mark (R39). -/
theorem State.Inv.markRefused {s : State} (h : s.Inv) : s.markRefused.Inv :=
  { h with }

/-- R46: every register at its reset value meets the invariant, whatever well-formed parameters the block has. -/
theorem State.Inv.powerOn {p : Params} (hp : p.wf = true) : (State.powerOn p).Inv := by
  constructor <;> simp [hp]

/-- RESET answers a state with every register at its reset value (R220). -/
theorem State.Inv.resetAll {s : State} (h : s.Inv) : s.resetAll.Inv :=
  { State.Inv.powerOn h.paramsWf with }

/-! ### CMD and RX_ERR -/

/-- A CMD in IDLE latches the command whose frame it emits, and no result stands yet (R105). -/
theorem State.Inv.command {s : State} (h : s.Inv) (hidle : s.phase = .idle) (c : Cmd) :
    State.Inv { s.emit (frame s.params c) with cmdLatched := some c, phase := .waiting } := by
  obtain ⟨hres, han⟩ := h.earlyResult (.inl hidle)
  have hlog : s.txLog = [] := by simp [h.txLogLatched, h.idleLatch hidle]
  exact
    { h with
      idleLatch := by simp
      busyLatch := by simp
      txLogLatched := by simp [hlog]
      earlySnapshot := fun _ => h.earlySnapshot (.inl hidle)
      earlyResult := fun _ => ⟨hres, han⟩
      doneResult := by simp
      fatalIff := by simp [hres]
      fatalAnalog := by simp
      configCommand := by simp [hres]
      liveCommand := by simp [hres]
      trailerOnly := fun htrailer => by simpa [hres] using (h.trailerOnly htrailer).1 }

/-- RX_ERR clears every result and enters FATAL (R127, R193). -/
theorem State.Inv.readError {s : State} (h : s.Inv) : (s.takeError .transportReadError).Inv :=
  { h with
    idleLatch := by simp
    busyLatch := by simp
    earlySnapshot := by simp
    earlyResult := by simp
    doneResult := by simp
    fatalIff := by simp
    fatalAnalog := by simp
    noChecksumError := by simp
    cfgIff := by simp
    cfgShape := by simp
    liveIff := by simp
    liveShape := by simp
    analogIff := by simp
    configCommand := by simp
    liveCommand := by simp
    trailerOnly := by simp }

/-! ### RX_BYTE -/

/-- The byte appended stands at the old fill count (R51). -/
theorem ByteSpace.append_read_len (sp : ByteSpace) (b : Byte) : (sp.append b).cells.read sp.len = some b :=
  Memory.read_write_same _ _ _

/-- A byte once written stays (R51). -/
theorem ByteSpace.append_read_of_read {sp : ByteSpace} {a : Nat} {x : Byte} (hf : sp.filled = true)
    (hx : sp.cells.read a = some x) (b : Byte) : (sp.append b).cells.read a = some x := by
  obtain ⟨bs, rfl⟩ := (ByteSpace.filled_iff sp).mp hf
  rw [ByteSpace.ofBytes_readCell] at hx
  rw [ByteSpace.ofBytes_append, ByteSpace.ofBytes_readCell]
  obtain ⟨hlt, -⟩ := List.getElem?_eq_some_iff.mp hx
  rwa [List.getElem?_append_left hlt]

/-- A marker ends in SYNC1 and is the first one, met while capture is off, or the second, met while it is on
(R121, R126). -/
theorem State.Inv.marker_cases {s : State} (h : s.Inv) {b : Byte} (hseen : s.markerSeen b = true) :
    b = sync1 ∧
      (s.syncCount = 0#2 ∧ s.capturing = false ∨ s.syncCount = 1#2 ∧ s.capturing = true) := by
  obtain ⟨-, hb, hcount⟩ := (s.markerSeen_iff b).mp hseen
  have hsync : s.syncCount = 0#2 ∨ s.syncCount = 1#2 := by bv_omega
  rcases hsync with hzero | hone
  · exact ⟨hb, .inl ⟨hzero, by simpa [hzero] using h.capturingIff⟩⟩
  · exact ⟨hb, .inr ⟨hone, h.capturingIff.mpr hone⟩⟩

/-- The detector never counts to 3, and capture is on exactly between the first and the second marker (R25, R126). -/
theorem State.Inv.receive_detector {s : State} (h : s.Inv) (b : Byte) :
    (receive b s).syncCount ≠ 3#2 ∧ ((receive b s).capturing = true ↔ (receive b s).syncCount = 1#2) := by
  rw [receive_eq]
  by_cases hseen : s.markerSeen b = true
  · obtain ⟨-, ⟨hsync, hcap⟩ | ⟨hsync, hcap⟩⟩ := h.marker_cases hseen
    · simp [hseen, hsync, hcap]
    · simp [hseen, hsync, hcap]
  · simpa [hseen] using And.intro h.syncBound h.capturingIff

theorem receive_syncCount (s : State) (b : Byte) :
    (receive b s).syncCount = if s.markerSeen b then s.syncCount + 1#2 else s.syncCount := by
  rw [receive_eq]

theorem receive_cap_eq (s : State) (b : Byte) :
    (receive b s).cap = if s.capturesNow b && decide (s.cap.len < 40) then s.cap.append b else s.cap := by
  rw [receive_eq]

/-- Before the first marker RX_BYTE captures nothing (R122). -/
theorem State.Inv.receive_captureNeedsMarker {s : State} (h : s.Inv) (b : Byte)
    (hsync : (receive b s).syncCount = 0#2) : (receive b s).cap.len = 0 := by
  rw [receive_syncCount] at hsync
  by_cases hseen : s.markerSeen b = true
  · obtain ⟨-, ⟨hold, -⟩ | ⟨hold, -⟩⟩ := h.marker_cases hseen <;> simp [hseen, hold] at hsync
  · have hzero : s.syncCount = 0#2 := by simpa [hseen] using hsync
    have hoff : s.capturing = false := by simpa [hzero] using h.capturingIff
    have hnow : s.capturesNow b = false := by
      unfold State.capturesNow
      split <;> simp [hseen, hoff]
    simpa [receive_cap_eq, hnow] using h.captureNeedsMarker hzero

/-- Under TOGGLE_FIRST the first byte captured is the SYNC1 of the first marker (R126 (e)). -/
theorem State.Inv.receive_captureFirst {s : State} (h : s.Inv) (b : Byte)
    (horder : s.params.captureOrder = .toggleFirst) (hsync : (receive b s).syncCount ≠ 0#2) :
    (receive b s).cap.cells.read 0 = some sync1 := by
  by_cases hold : s.syncCount = 0#2
  · rw [receive_syncCount, hold] at hsync
    have hseen : s.markerSeen b = true := by
      by_contra hno
      simp [hno] at hsync
    have hb : b = sync1 := (h.marker_cases hseen).1
    have hoff : s.capturing = false := by simpa [hold] using h.capturingIff
    have hempty : s.cap.len = 0 := h.captureNeedsMarker hold
    have hnow : s.capturesNow b = true := by simp [State.capturesNow, horder, hseen, hoff]
    have hroom : s.cap.len < 40 := by omega
    rw [receive_cap_eq, if_pos (by simp [hnow, hroom]), ← hb, ← hempty]
    exact s.cap.append_read_len b
  · have hfirst := h.captureFirst horder hold
    rw [receive_cap_eq]
    split
    · exact ByteSpace.append_read_of_read h.capFilled hfirst b
    · exact hfirst

/-- RX_BYTE either has room in RXB and appends, or finds RXB full and sets `rx_overflow` (R123). -/
theorem State.Inv.receive_rxb_cases {s : State} (h : s.Inv) (b : Byte) :
    (s.rxb.len < s.params.rxCap ∧ (receive b s).rxb = s.rxb.append b ∧ (receive b s).rxOverflow = s.rxOverflow) ∨
    (s.rxb.len = s.params.rxCap ∧ (receive b s).rxb = s.rxb ∧ (receive b s).rxOverflow = true) := by
  rw [receive_eq]
  rcases h.rxbBound.lt_or_eq with hroom | hfull
  · exact .inl ⟨hroom, by simp [hroom], by simp [hroom]⟩
  · exact .inr ⟨hfull, by simp [hfull], by simp [hfull]⟩

/-- RXB and its overflow flag after RX_BYTE meet the invariant (R27, R28, R142). -/
theorem State.Inv.receive_rxb {s : State} (h : s.Inv) (b : Byte) :
    (receive b s).rxb.filled = true ∧ (receive b s).rxb.len ≤ s.params.rxCap ∧
      ((receive b s).rxOverflow = true → (receive b s).rxb.len = s.params.rxCap) ∧ (receive b s).rxb.len ≠ 0 := by
  obtain ⟨hroom, hrxb, hover⟩ | ⟨hfull, hrxb, hover⟩ := h.receive_rxb_cases b
  · rw [hrxb, hover]
    exact ⟨ByteSpace.append_filled h.rxbFilled b, hroom, fun ho => absurd (h.rxOverflowFull ho) hroom.ne,
      Nat.succ_ne_zero _⟩
  · have hpos := (Params.wf_capacity h.paramsWf).1
    rw [hrxb]
    exact ⟨h.rxbFilled, h.rxbBound, fun _ => hfull, by omega⟩

/-- RX_BYTE either has room in CAP and captures, or leaves CAP alone, full if `cap_overflow` is then set (R122). -/
theorem State.Inv.receive_cap_cases {s : State} (h : s.Inv) (b : Byte) :
    (s.cap.len < capCap ∧ (receive b s).cap = s.cap.append b ∧ (receive b s).capOverflow = s.capOverflow) ∨
    ((receive b s).cap = s.cap ∧ ((receive b s).capOverflow = true → s.cap.len = capCap)) := by
  rw [receive_eq]
  by_cases hnow : s.capturesNow b = true
  · rcases h.capBound.lt_or_eq with hroom | hfull
    · rw [capCap] at *
      exact .inl ⟨hroom, by simp [hnow, hroom], by simp [hroom]⟩
    · rw [capCap] at *
      exact .inr ⟨by simp [hfull], fun _ => hfull⟩
  · exact .inr ⟨by simp [hnow], fun ho => h.capOverflowFull (by simpa [hnow] using ho)⟩

/-- CAP and its overflow flag after RX_BYTE meet the invariant (R29, R30). -/
theorem State.Inv.receive_cap {s : State} (h : s.Inv) (b : Byte) :
    (receive b s).cap.filled = true ∧ (receive b s).cap.len ≤ capCap ∧
      ((receive b s).capOverflow = true → (receive b s).cap.len = capCap) := by
  obtain ⟨hroom, hcap, hover⟩ | ⟨hcap, hover⟩ := h.receive_cap_cases b
  · rw [hcap, hover]
    exact ⟨ByteSpace.append_filled h.capFilled b, hroom, fun ho => absurd (h.capOverflowFull ho) hroom.ne⟩
  · rw [hcap]
    exact ⟨h.capFilled, h.capBound, hover⟩

/-- An admitted RX_BYTE keeps the two byte spaces, the detector and the flags in order (R120). -/
theorem State.Inv.receive {s : State} (h : s.Inv) (b : Byte) : (receive b s).Inv := by
  obtain ⟨hrxbFilled, hrxbBound, hrxFull, hnonempty⟩ := h.receive_rxb b
  obtain ⟨hcapFilled, hcapBound, hcapFull⟩ := h.receive_cap b
  obtain ⟨hsyncBound, hcapturingIff⟩ := h.receive_detector b
  have hneedsMarker := h.receive_captureNeedsMarker b
  have hcaptureFirst := h.receive_captureFirst b
  rw [receive_eq] at *
  exact
    { h with
      rxbFilled := hrxbFilled
      capFilled := hcapFilled
      rxbBound := hrxbBound
      capBound := hcapBound
      syncBound := hsyncBound
      capturingIff := hcapturingIff
      captureNeedsMarker := hneedsMarker
      captureFirst := hcaptureFirst
      rxOverflowFull := hrxFull
      capOverflowFull := hcapFull
      observedIff := iff_of_true rfl hnonempty }

/-! ### WAIT_DONE -/

/-- What DECODE does on filled snapshots: an error, the ConfigRecord that read-config-data asked for, or a
LiveDataRecord, whose trailer only read-live-data checks (R141 to R149). -/
inductive DecodeEffect (s : State) : State → Prop where
  | error {e : ErrorKind} (hkind : e = .noResponse ∨ e = .malformedFrame ∨ e = .unsupportedVersion) :
    DecodeEffect s (s.clearRecords.takeError e)
  | config {r : Record ConfigField} (hcmd : s.cmdLatched = some .cfg)
    (hshape : hasShape s.params.configLayout r = true) :
    DecodeEffect s { s.clearRecords with cfg := some r, resCode := .configRecord }
  | live {r : Record LiveField} {mismatch : Bool}
    (hcmd : s.cmdLatched = some .live ∨ s.cmdLatched = some .lives ∧ mismatch = false)
    (hshape : hasShape liveLayout r = true) :
    DecodeEffect s { s.clearRecords with live := some r, resCode := .liveRecord, trailerMismatch := mismatch }

theorem decodeConfig_effect {s u : State} (hp : s.params.wf = true) (hf : s.rxs.filled = true)
    (hcmd : s.cmdLatched = some .cfg) (h : decodeConfig s.clearRecords = .ok u) : DecodeEffect s u := by
  obtain ⟨bs, hbs⟩ := (ByteSpace.filled_iff s.rxs).mp hf
  obtain ⟨-, heq⟩ | ⟨-, r, -, hshape, heq⟩ := decodeConfig_cases s.clearRecords bs hbs hp
  · obtain rfl : u = _ := Except.ok.inj (h.symm.trans heq)
    exact .error (by simp)
  · obtain rfl : u = _ := Except.ok.inj (h.symm.trans heq)
    exact .config hcmd hshape

theorem decodeLive_effect {s u : State} {checkTrailer : Bool} (hf : s.rxs.filled = true)
    (hcmd : s.cmdLatched = some (if checkTrailer then .live else .lives))
    (h : decodeLive checkTrailer s.clearRecords = .ok u) : DecodeEffect s u := by
  obtain ⟨bs, hbs⟩ := (ByteSpace.filled_iff s.rxs).mp hf
  obtain ⟨-, heq⟩ | ⟨-, -, heq⟩ | ⟨-, -, -, heq⟩ | ⟨-, -, r, -, hshape, heq⟩ :=
    decodeLive_cases checkTrailer s.clearRecords bs hbs
  all_goals obtain rfl : u = _ := Except.ok.inj (h.symm.trans heq)
  · exact .error (by simp)
  · exact .error (by simp)
  · exact .error (by simp)
  · refine .live ?_ hshape
    cases checkTrailer with
    | true => exact .inl hcmd
    | false => exact .inr ⟨hcmd, rfl⟩

/-- Every answer of DECODE on a filled snapshot is one of the effects. -/
theorem decodeRecord_effect {s u : State} (hp : s.params.wf = true) (hf : s.rxs.filled = true)
    (h : decodeRecord s = .ok u) : DecodeEffect s u := by
  unfold decodeRecord at h
  split at h
  case isTrue => cases h; exact .error (by simp)
  case isFalse =>
    split at h
    case h_1 => cases h
    case h_2 => cases h; exact .error (by simp)
    case h_3 =>
      unfold decodePath at h
      split at h
      case h_1 hcmd => exact decodeConfig_effect hp hf hcmd h
      case h_2 hcmd => exact decodeLive_effect (checkTrailer := true) hf hcmd h
      case h_3 hcmd => exact decodeLive_effect (checkTrailer := false) hf hcmd h
      case h_4 => cases h

/-- The clauses of the invariant about the record, as they stand once DECODE has answered (R192, R33 to R35). -/
structure State.RecordsAgree (s : State) : Prop where
  answered : s.resCode ≠ .none
  notFatal : s.resCode ≠ .transportReadError
  noChecksumError : s.resCode ≠ .checksumMismatch
  cfgIff : s.cfg.isSome = true ↔ s.resCode = .configRecord
  cfgShape : s.cfg.all (hasShape s.params.configLayout) = true
  liveIff : s.live.isSome = true ↔ s.resCode = .liveRecord
  liveShape : s.live.all (hasShape liveLayout) = true
  configCommand : s.resCode = .configRecord → s.cmdLatched = some .cfg
  liveCommand : s.resCode = .liveRecord → s.cmdLatched = some .live ∨ s.cmdLatched = some .lives
  trailerOnly : s.trailerMismatch = true → s.resCode = .liveRecord ∧ s.cmdLatched = some .live

/-- DECODE leaves a record exactly with its code, whole, and for the command that asked for it. -/
theorem DecodeEffect.recordsAgree {s u : State} (h : DecodeEffect s u) : u.RecordsAgree := by
  cases h with
  | error hkind => rcases hkind with rfl | rfl | rfl <;> constructor <;> simp
  | config hcmd hshape => constructor <;> simp [hcmd, hshape]
  | live hcmd hshape =>
    rcases hcmd with hcmd | ⟨hcmd, rfl⟩
    · constructor <;> simp [hcmd, hshape]
    · constructor <;> simp [hcmd, hshape]

/-- DERIVE_ANALOG answers with a code, and with a reading exactly when the code says so (R37, R173). -/
theorem deriveAnalog_agrees {s t : State} (h : deriveAnalog s = .ok t) :
    t.anCode ≠ .none ∧ (t.analog.isSome = true ↔ t.anCode = .analogReading) := by
  unfold deriveAnalog at h
  split at h
  case isTrue => cases h; simp
  case isFalse =>
    split at h
    case isTrue => cases h; simp
    case isFalse =>
      split at h
      case h_1 => cases h; simp
      case h_2 => cases h

/-- An admitted WAIT_DONE freezes the byte spaces and leaves the results of DECODE and DERIVE_ANALOG (R140). -/
theorem State.Inv.waitDone {s u v : State} (h : s.Inv) (hwaiting : s.phase = .waiting)
    (hrecord : decodeRecord s.snapshot = .ok u) (hanalog : deriveAnalog u = .ok v) :
    State.Inv { v with phase := .done } := by
  have hagree := (decodeRecord_effect (s := s.snapshot) h.paramsWf h.rxbFilled hrecord).recordsAgree
  obtain ⟨hanswered, hanalogIff⟩ := deriveAnalog_agrees hanalog
  obtain ⟨_, _, _, _, rfl⟩ := decodeRecord_frame hrecord
  obtain ⟨_, _, rfl⟩ := deriveAnalog_frame hanalog
  exact
    { h with
      rxsFilled := h.rxbFilled
      capsFilled := h.capFilled
      rxsBound := h.rxbBound
      capsBound := h.capBound
      syncSnapshotBound := h.syncBound
      idleLatch := by simp
      busyLatch := fun _ => h.busyLatch (.inl hwaiting)
      earlySnapshot := by simp
      earlyResult := by simp
      doneResult := fun _ => ⟨hagree.answered, hanswered⟩
      fatalIff := iff_of_false (by simp) hagree.notFatal
      fatalAnalog := by simp
      noChecksumError := hagree.noChecksumError
      cfgIff := hagree.cfgIff
      cfgShape := hagree.cfgShape
      liveIff := hagree.liveIff
      liveShape := hagree.liveShape
      analogIff := hanalogIff
      configCommand := hagree.configCommand
      liveCommand := hagree.liveCommand
      trailerOnly := hagree.trailerOnly }

/-! ### The invariant along a run -/

/-- Every event keeps the invariant. -/
theorem exec_keeps_inv {i : Instr} {s t : State} (hexec : exec i s = .next t) (h : s.Inv) : t.Inv := by
  cases exec_effect hexec with
  | refused => exact h.markRefused
  | command c hidle => exact h.command hidle c
  | byte b => exact h.receive b
  | readError => exact h.readError
  | waitDone hwaiting hrecord hanalog => exact h.waitDone hwaiting hrecord hanalog
  | reset => exact h.resetAll

/-- Every state that events reach from power-on meets the invariant. -/
theorem execAll_powerOn_inv {p : Params} {is : List Instr} {t : State} (hp : p.wf = true)
    (h : execAll is (State.powerOn p) = .next t) : t.Inv :=
  execAll_induction (fun _ _ _ => exec_keeps_inv) h (.powerOn hp)

/-- In a state that meets the invariant the log holds at most the frame of the latched command (R38). -/
theorem State.Inv.txLog_length_le_one {s : State} (h : s.Inv) : s.txLog.length ≤ 1 := by
  rw [h.txLogLatched]
  split <;> simp

/-! ### The phases and the mark -/

/-- FATAL has the highest number of the phases (R21). -/
theorem Phase.code_le_fatal (ph : Phase) : ph.code.toNat ≤ Phase.fatal.code.toNat := by
  cases ph <;> decide

/-- No effect of an event clears the mark (R39). -/
theorem exec_keeps_refused {i : Instr} {s t : State} (hexec : exec i s = .next t) (hmark : s.refused = true) :
    t.refused = true := by
  cases exec_effect hexec with
  | refused => rfl
  | command | readError | reset => exact hmark
  | byte b => simpa [receive_eq] using hmark
  | waitDone _ hrecord hanalog =>
    obtain ⟨_, _, _, _, rfl⟩ := decodeRecord_frame hrecord
    obtain ⟨_, _, rfl⟩ := deriveAnalog_frame hanalog
    exact hmark

/-- An event its phase does not admit sets the mark (R39, R198). -/
theorem exec_refused_of_not_admitted {i : Instr} {s t : State} (hrefused : admitted i s.phase = false)
    (hexec : exec i s = .next t) : t.refused = true := by
  cases exec_effect hexec with
  | refused => rfl
  | command c hidle => simp [admitted_commandEvent, hidle] at hrefused
  | byte b hphase => simp [admitted, hphase] at hrefused
  | readError hphase => simp [admitted, hphase] at hrefused
  | waitDone hwaiting => simp [admitted, hwaiting] at hrefused
  | reset => simp [admitted] at hrefused

/-! ### The views -/

/-- `done` is 1 exactly in DONE and FATAL (R40). -/
theorem State.doneFlag_eq (s : State) : s.doneFlag = decide (s.phase = .done ∨ s.phase = .fatal) := by
  unfold State.doneFlag
  cases s.phase <;> rfl

/-- STATUS right after reset: `cmd_latched` NONE in bits 11:10, every other field 0 (R41). -/
theorem State.powerOn_status (p : Params) : (State.powerOn p).status = 0x00000C00#32 := by
  simp only [State.status, State.doneFlag, State.powerOn]
  decide

/-- STATUS does not show the queue or the mark, so RESET gives it the value of power-on. -/
theorem State.resetAll_status (s : State) : s.resetAll.status = 0x00000C00#32 :=
  State.powerOn_status s.params

/-- RX_LEN shows an `rx_len` that 32 bits hold (R43). -/
theorem State.rxLenView_toNat (s : State) (hlen : s.rxb.len < 2 ^ 32) : s.rxLenView.toNat = s.rxb.len := by
  rw [State.rxLenView, if_pos (show s.rxb.len < 4294967296 from hlen), BitVec.toNat_ofNat, Nat.mod_eq_of_lt hlen]

/-- CAP_LEN is six bits of `cap_len` below zero bits (R43). -/
theorem State.capLenView_fields (s : State) :
    s.capLenView.extractLsb' 0 6 = BitVec.ofNat 6 s.cap.len ∧ s.capLenView.extractLsb' 6 26 = 0#26 := by
  unfold State.capLenView
  constructor
  · rw [BitVec.extractLsb'_setWidth_of_le (by decide), BitVec.extractLsb'_eq_self]
  · ext i hi
    simp

/-- A `cap_len` of at most 40 fits the six bits of CAP_LEN (R29, R43). -/
theorem State.Inv.capLenView_toNat {s : State} (h : s.Inv) : s.capLenView.toNat = s.cap.len := by
  have hlen : s.cap.len ≤ 40 := h.capBound
  simp only [State.capLenView, BitVec.toNat_setWidth, BitVec.toNat_ofNat]
  omega

end Sys2Proof.Machine

namespace Sys2Proof.Proofs

open Sys2Proof Sys2Proof.Machine

/-- Settles O57: an event keeps the invariant whatever its effect, and a reserved word changes only the queue and the
mark. -/
theorem stepKeepsInvariant : Obligations.StepKeepsInvariant := by
  intro s t h hstep
  obtain ⟨-, w, ws, -, ⟨i, -, hexec⟩ | ⟨why, -, rfl⟩⟩ := step_cases hstep
  · exact exec_keeps_inv hexec (h.with_inputs ws)
  · exact (h.with_inputs ws).markRefused

/-- Settles O56: every register at its reset value. -/
theorem invariantHoldsAtReset : Obligations.InvariantHoldsAtReset :=
  ⟨fun _ hp => .powerOn hp, .powerOn (by decide)⟩

/-- Settles O13: the run keeps the invariant, which holds the log to the latched command's frame. -/
theorem atMostOneFrameAnInvocation : Obligations.AtMostOneFrameAnInvocation := by
  intro p is t hp h
  exact (execAll_powerOn_inv hp h).txLog_length_le_one

/-- Settles O42: the run keeps the invariant and the parameters. -/
theorem recordsPresentExactlyWithTheirCode : Obligations.RecordsPresentExactlyWithTheirCode := by
  intro p is t hp h
  have hinv := execAll_powerOn_inv hp h
  have hparams : t.params = p := execAll_params h
  refine ⟨?_, fun r hr => ?_, ?_, fun r hr => ?_, ?_⟩
  · rw [← hinv.cfgIff, Option.isSome_iff_ne_none]
  · simpa [hr, hparams] using hinv.cfgShape
  · rw [← hinv.liveIff, Option.isSome_iff_ne_none]
  · simpa [hr] using hinv.liveShape
  · rw [← hinv.analogIff, Option.isSome_iff_ne_none]

/-- Settles O21: the effects that change the phase are those R21 lists. -/
theorem phaseOnlyMovesForward : Obligations.PhaseOnlyMovesForward := by
  refine ⟨⟨rfl, rfl, rfl, rfl⟩, fun p => rfl, fun i s t hexec => ?_⟩
  cases exec_effect hexec with
  | refused => simp
  | command c hidle => simp [hidle, Phase.code]
  | byte b => simp [receive_eq]
  | readError hphase => exact ⟨fun _ => s.phase.code_le_fatal, fun _ => .inr (.inr (.inl ⟨rfl, hphase, rfl⟩))⟩
  | waitDone hwaiting hrecord hanalog => simp [hwaiting, Phase.code]
  | reset => simp

/-- Settles O25: an event that is not admitted has the refusal for its only effect, and no effect clears the mark. -/
theorem refusedMarkIsSticky : Obligations.RefusedMarkIsSticky := by
  refine ⟨fun i s t hrefused hexec => ?_, fun s t w ws why hqueue hreserved hstep => ?_, fun s t hstep hmark => ?_⟩
  · exact exec_refused_of_not_admitted hrefused hexec
  · obtain ⟨-, w', ws', hqueue', ⟨i, hevent, -⟩ | ⟨-, -, rfl⟩⟩ := step_cases hstep
    · obtain ⟨rfl, -⟩ := List.cons.inj (hqueue.symm.trans hqueue')
      simp [hreserved] at hevent
    · rfl
  · obtain ⟨-, w, ws, -, ⟨i, -, hexec⟩ | ⟨-, -, rfl⟩⟩ := step_cases hstep
    · exact exec_keeps_refused hexec hmark
    · rfl

/-- Settles O59: the fill counts fit their views, and a whole record has a value for every field of its layout. -/
theorem readOnlyViews : Obligations.ReadOnlyViews := by
  refine ⟨fun s hlen => s.rxLenView_toNat hlen, fun s => s.capLenView_fields, fun s h => h.capLenView_toNat,
    fun s => ⟨fun hcfg f => ?_, fun hlive f => ?_, rfl⟩, fun s r h hr => ?_, fun s r h hr => ?_⟩
  · simp [State.readCfg, hcfg]
  · simp [State.readLive, hlive]
  · obtain ⟨-, -, -, horder⟩ := (Params.wf_iff s.params).mp h.paramsWf
    have hshape : hasShape s.params.configLayout r = true := by simpa [hr] using h.cfgShape
    simpa [State.readCfg, hr] using fieldOf_of_hasShape (keepsFieldOrder_nodup horder) hshape
  · have hshape : hasShape liveLayout r = true := by simpa [hr] using h.liveShape
    simpa [State.readLive, hr] using fieldOf_of_hasShape (by decide) hshape

/-- Settles O20: RESET's answer is `State.resetAll`, whose registers all stand at their reset values. -/
theorem resetRestoresResetValues : Obligations.ResetRestoresResetValues := by
  refine ⟨by decide, fun s => ⟨s.resetAll, rfl, ?_⟩⟩
  simp [State.resetAll_status]

/-- Settles O53: a slice of STATUS at a field's place skips the fields below it and stops before those above. -/
theorem statusFields : Obligations.StatusFields := by
  refine ⟨fun s => ?_, State.powerOn_status, fun s v => rfl⟩
  rw [← State.doneFlag_eq]
  simp (disch := decide) only [State.status, BitVec.extractLsb'_append_eq_of_add_le,
    BitVec.extractLsb'_append_eq_of_le]
  simp

end Sys2Proof.Proofs

/-! PROOFS. The memory family (20_memory.md): the byte spaces, what an unfilled read answers, the single writers of the
registers, the event queue, and a run of received bytes before and after WAIT_DONE. -/

namespace Sys2Proof.Machine

/-! ### The byte spaces -/

/-- `Append` changes the byte space at its fill count alone (R51). -/
theorem ByteSpace.append_read_other (sp : ByteSpace) (b : Byte) {a : Nat} (ha : a ≠ sp.len) :
    (sp.append b).cells.read a = sp.cells.read a :=
  Memory.read_write_other _ _ _ _ ha

/-- At and above its fill count a filled byte space holds no value (R51). -/
theorem ByteSpace.read_eq_none_of_filled {sp : ByteSpace} (hf : sp.filled = true) {a : Nat} (ha : sp.len ≤ a) :
    sp.cells.read a = none := by
  obtain ⟨bs, rfl⟩ := (ByteSpace.filled_iff sp).mp hf
  rw [ByteSpace.ofBytes_readCell]
  exact List.getElem?_eq_none ha

/-- `MemRead` past the fill count is a fault, whatever the cells hold (R52). -/
theorem memRead_past_len {sp : ByteSpace} {i n : Nat} (h : sp.len < i + n) :
    memRead sp i n = .error .unfilledRead := by
  simp [memRead, ByteSpace.read, Nat.not_le.mpr h]

theorem execRxByte_of_not_fatal {s : State} (b : Byte) (h : s.phase ≠ .fatal) :
    exec (.rxByte b) s = .next (receive b s) :=
  if_neg h

theorem receive_rxb_eq (s : State) (b : Byte) :
    (receive b s).rxb = if s.rxb.len < s.params.rxCap then s.rxb.append b else s.rxb := by
  rw [receive_eq]

/-- What an event may do to a byte space the receiver fills: nothing, or append the byte it carries. -/
def FilledBy (i : Instr) (old new : ByteSpace) : Prop :=
  new = old ∨ ∃ b, i = .rxByte b ∧ new = old.append b

/-- What an event but RESET does to RXB and CAP (R51, R122, R123). -/
theorem exec_fills {i : Instr} {s t : State} (hi : i ≠ .reset) (hexec : exec i s = .next t) :
    FilledBy i s.rxb t.rxb ∧ FilledBy i s.cap t.cap := by
  cases exec_effect hexec with
  | refused | command | readError => exact ⟨.inl rfl, .inl rfl⟩
  | byte b =>
    rw [receive_rxb_eq, receive_cap_eq]
    constructor
    · split
      · exact .inr ⟨b, rfl, rfl⟩
      · exact .inl rfl
    · split
      · exact .inr ⟨b, rfl, rfl⟩
      · exact .inl rfl
  | waitDone _ hrecord hanalog =>
    obtain ⟨_, _, _, _, rfl⟩ := decodeRecord_frame hrecord
    obtain ⟨_, _, rfl⟩ := deriveAnalog_frame hanalog
    exact ⟨.inl rfl, .inl rfl⟩
  | reset => exact absurd rfl hi

theorem FilledBy.read_other {i : Instr} {old new : ByteSpace} (h : FilledBy i old new) {a : Nat} (ha : a ≠ old.len) :
    new.cells.read a = old.cells.read a := by
  obtain rfl | ⟨b, -, rfl⟩ := h
  · rfl
  · exact old.append_read_other b ha

theorem FilledBy.len_cases {i : Instr} {old new : ByteSpace} (h : FilledBy i old new) :
    new.len = old.len ∧ new = old ∨
      new.len = old.len + 1 ∧ ∃ b, i = .rxByte b ∧ new.cells.read old.len = some b := by
  obtain rfl | ⟨b, hi, rfl⟩ := h
  · exact .inl ⟨rfl, rfl⟩
  · exact .inr ⟨rfl, b, hi, old.append_read_len b⟩

/-! ### No event faults -/

/-- DECODE answers whenever the snapshot is filled and a command is latched (R52, R141). -/
theorem decodeRecord_completes {s : State} (hp : s.params.wf = true) (hf : s.rxs.filled = true)
    (hcmd : s.cmdLatched ≠ none) : ∃ u, decodeRecord s = .ok u := by
  obtain ⟨bs, hbs⟩ := (ByteSpace.filled_iff s.rxs).mp hf
  have hconfig : ∃ u, decodeConfig s.clearRecords = .ok u := by
    obtain ⟨-, heq⟩ | ⟨-, _, -, -, heq⟩ := decodeConfig_cases s.clearRecords bs hbs hp <;> exact ⟨_, heq⟩
  have hlive (checkTrailer : Bool) : ∃ u, decodeLive checkTrailer s.clearRecords = .ok u := by
    obtain ⟨-, heq⟩ | ⟨-, -, heq⟩ | ⟨-, -, -, heq⟩ | ⟨-, -, _, -, -, heq⟩ :=
      decodeLive_cases checkTrailer s.clearRecords bs hbs <;> exact ⟨_, heq⟩
  have hpath : ∃ u, decodePath s.cmdLatched s.clearRecords = .ok u := by
    cases hc : s.cmdLatched with
    | none => exact absurd hc hcmd
    | some c =>
      cases c with
      | cfg => exact hconfig
      | live => exact hlive true
      | lives => exact hlive false
  unfold decodeRecord
  rw [hbs, markersPresent_ofBytes]
  split
  · exact ⟨_, rfl⟩
  · split
    case h_1 heq => cases heq
    case h_2 => exact ⟨_, rfl⟩
    case h_3 => exact hpath

/-- DERIVE_ANALOG answers whenever the capture snapshot is filled (R52, R170). -/
theorem deriveAnalog_completes {s : State} (hf : s.caps.filled = true) : ∃ u, deriveAnalog s = .ok u := by
  obtain ⟨cs, hcs⟩ := (ByteSpace.filled_iff s.caps).mp hf
  exact ⟨_, deriveAnalog_ofBytes s cs hcs⟩

/-- In WAITING a state that meets the invariant completes WAIT_DONE (R140). -/
theorem State.Inv.finishWait_completes {s : State} (h : s.Inv) (hwaiting : s.phase = .waiting) :
    ∃ t, finishWait s = .ok t := by
  obtain ⟨u, hu⟩ := decodeRecord_completes (s := s.snapshot) h.paramsWf h.rxbFilled (h.busyLatch (.inl hwaiting))
  have hcaps : u.caps.filled = true := by
    obtain ⟨_, _, _, _, rfl⟩ := decodeRecord_frame hu
    exact h.capFilled
  obtain ⟨v, hv⟩ := deriveAnalog_completes hcaps
  exact ⟨{ v with phase := .done }, by simp only [finishWait, hu, hv]⟩

theorem runCommand_completes (c : Cmd) (s : State) : ∃ t, runCommand c s = .next t := by
  unfold runCommand
  split <;> exact ⟨_, rfl⟩

/-- From a state that meets the invariant every event answers a next state (R52). -/
theorem State.Inv.exec_completes {s : State} (h : s.Inv) (i : Instr) : ∃ t, exec i s = .next t := by
  cases i with
  | cmdReadConfig => exact runCommand_completes .cfg s
  | cmdReadLive => exact runCommand_completes .live s
  | cmdReadLiveSimple => exact runCommand_completes .lives s
  | rxByte b =>
    simp only [exec, execRxByte]
    split <;> exact ⟨_, rfl⟩
  | rxErr =>
    simp only [exec, execRxErr]
    split <;> exact ⟨_, rfl⟩
  | waitDone =>
    simp only [exec, execWaitDone]
    split
    · obtain ⟨t, ht⟩ := h.finishWait_completes ‹_›
      exact ⟨t, by rw [ht]⟩
    · exact ⟨_, rfl⟩
  | reset => exact ⟨_, rfl⟩

/-! ### The single writers -/

/-- The coordinator's events leave the receiver's registers (R64). -/
theorem exec_coordinator_frame {i : Instr} {s t : State} (hagent : agentOf i = .coordinator)
    (hexec : exec i s = .next t) :
    t.rxb = s.rxb ∧ t.cap = s.cap ∧ t.prev = s.prev ∧ t.capturing = s.capturing ∧ t.syncCount = s.syncCount ∧
      t.responseObserved = s.responseObserved ∧ t.rxOverflow = s.rxOverflow ∧ t.capOverflow = s.capOverflow := by
  cases exec_effect hexec with
  | refused | command => simp
  | byte | readError | reset => cases hagent
  | waitDone _ hrecord hanalog =>
    obtain ⟨_, _, _, _, rfl⟩ := decodeRecord_frame hrecord
    obtain ⟨_, _, rfl⟩ := deriveAnalog_frame hanalog
    simp

/-- The receiver's events leave the snapshot, the latched command and the transmit log (R64). -/
theorem exec_receiver_frame {i : Instr} {s t : State} (hagent : agentOf i = .receiver) (hexec : exec i s = .next t) :
    t.rxs = s.rxs ∧ t.caps = s.caps ∧ t.syncCountS = s.syncCountS ∧ t.capOverflowS = s.capOverflowS ∧
      t.cmdLatched = s.cmdLatched ∧ t.txLog = s.txLog := by
  cases exec_effect hexec with
  | refused | readError => simp
  | command c => cases c <;> cases hagent
  | byte => simp [receive_eq]
  | waitDone | reset => cases hagent

/-- RX_BYTE leaves the results and the phase (R64). -/
theorem exec_rxByte_frame {b : Byte} {s t : State} (hexec : exec (.rxByte b) s = .next t) :
    t.resCode = s.resCode ∧ t.cfg = s.cfg ∧ t.live = s.live ∧ t.trailerMismatch = s.trailerMismatch ∧
      t.anCode = s.anCode ∧ t.analog = s.analog ∧ t.phase = s.phase := by
  obtain ⟨-, rfl⟩ | ⟨-, rfl⟩ := execRxByte_cases hexec
  · simp
  · simp [receive_eq]

/-! ### A run of received bytes -/

/-- The state after RX_BYTE events for all the bytes of a list, none of them refused. -/
def receiveAll (bs : List Byte) (s : State) : State := bs.foldl (fun t b => receive b t) s

@[simp] theorem receiveAll_nil (s : State) : receiveAll [] s = s := rfl

@[simp] theorem receiveAll_cons (b : Byte) (bs : List Byte) (s : State) :
    receiveAll (b :: bs) s = receiveAll bs (receive b s) := rfl

/-- A property that RX_BYTE keeps holds after every run of bytes. -/
theorem receiveAll_induction {P : State → Prop} (hstep : ∀ b t, P t → P (receive b t)) (bs : List Byte) {s : State}
    (hs : P s) : P (receiveAll bs s) := by
  induction bs generalizing s with
  | nil => exact hs
  | cons b bs ih => exact ih (hstep b s hs)

@[simp] theorem receive_phase (s : State) (b : Byte) : (receive b s).phase = s.phase := by
  rw [receive_eq]

@[simp] theorem receive_params (s : State) (b : Byte) : (receive b s).params = s.params := by
  rw [receive_eq]

theorem receiveAll_phase (bs : List Byte) (s : State) : (receiveAll bs s).phase = s.phase :=
  receiveAll_induction (P := fun t => t.phase = s.phase) (fun b t ht => (receive_phase t b).trans ht) bs rfl

theorem State.Inv.receiveAll {s : State} (h : s.Inv) (bs : List Byte) : (receiveAll bs s).Inv :=
  receiveAll_induction (fun b _ ht => ht.receive b) bs h

/-- Outside FATAL a run of RX_BYTE events is admitted as a whole, and the events behind it go on from there. -/
theorem execAll_rxBytes_append (bs : List Byte) (is : List Instr) {s : State} (h : s.phase ≠ .fatal) :
    execAll (bs.map .rxByte ++ is) s = execAll is (receiveAll bs s) := by
  induction bs generalizing s with
  | nil => rfl
  | cons b bs ih =>
    rw [List.map_cons, List.cons_append, execAll, execRxByte_of_not_fatal b h]
    exact ih (by simpa using h)

theorem execAll_rxBytes (bs : List Byte) {s : State} (h : s.phase ≠ .fatal) :
    execAll (bs.map .rxByte) s = .next (receiveAll bs s) := by
  simpa [execAll] using execAll_rxBytes_append bs [] h

/-- RX_BYTE appends its byte to the bytes of RXB, of which at most RX_CAP are kept (R123). -/
theorem receive_rxb_ofBytes {s : State} {bs : List Byte} (b : Byte) (hs : s.rxb = .ofBytes (bs.take s.params.rxCap)) :
    (receive b s).rxb = .ofBytes ((bs ++ [b]).take s.params.rxCap) := by
  rw [receive_rxb_eq, hs, ByteSpace.ofBytes_len, List.length_take]
  by_cases hroom : bs.length < s.params.rxCap
  · rw [if_pos (by omega), ByteSpace.ofBytes_append, List.take_of_length_le hroom.le,
      List.take_of_length_le (by simpa using hroom)]
  · rw [if_neg (by omega), List.take_append_of_le_length (by omega)]

/-- A run of bytes stands in RXB in arrival order, behind the bytes before it, up to RX_CAP (R53, R123). -/
theorem receiveAll_rxb {s : State} {before : List Byte} (bs : List Byte)
    (hs : s.rxb = .ofBytes (before.take s.params.rxCap)) :
    (receiveAll bs s).rxb = .ofBytes ((before ++ bs).take s.params.rxCap) := by
  induction bs generalizing s before with
  | nil => simpa using hs
  | cons b bs ih =>
    have hstep : (receive b s).rxb = .ofBytes ((before ++ [b]).take (receive b s).params.rxCap) := by
      rw [receive_params]
      exact receive_rxb_ofBytes b hs
    rw [receiveAll_cons, ih hstep, receive_params, List.append_assoc, List.singleton_append]

/-- The snapshot of WAIT_DONE and the result registers (R31 to R37). -/
def State.snapshotAndResults (s : State) :
    (ByteSpace × ByteSpace × BitVec 2 × Bool) × ResCode × Option (Record ConfigField) × Option (Record LiveField) ×
      Bool × AnCode × Option Analog :=
  ((s.rxs, s.caps, s.syncCountS, s.capOverflowS), s.resCode, s.cfg, s.live, s.trailerMismatch, s.anCode, s.analog)

/-- No received byte writes the snapshot or a result (R64, R65). -/
theorem receiveAll_snapshotAndResults (bs : List Byte) (s : State) :
    (receiveAll bs s).snapshotAndResults = s.snapshotAndResults :=
  receiveAll_induction (P := fun t => t.snapshotAndResults = s.snapshotAndResults)
    (fun b t ht => by rw [receive_eq]; exact ht) bs rfl

/-! ### The event queue -/

/-- An outcome with more event words delivered behind the queue of its next state. -/
def deliverNext (ws : List EventWord) : StepOutcome → StepOutcome
  | .next t => .next (t.deliver ws)
  | .fault f => .fault f
  | .refused r => .refused r

section
variable (s : State) (ws : List EventWord)

theorem State.takeError_deliver (e : ErrorKind) : (s.deliver ws).takeError e = (s.takeError e).deliver ws := by
  cases e <;> rfl

theorem State.clearRecords_deliver : (s.deliver ws).clearRecords = s.clearRecords.deliver ws := rfl

theorem decodeConfig_deliver : decodeConfig (s.deliver ws) = (decodeConfig s).map (State.deliver · ws) := by
  unfold decodeConfig
  rw [State.deliver_params, State.deliver_rxs, State.takeError_deliver]
  split
  · rfl
  · cases unpack s.params.recOrder s.rxs recOffset s.params.configLayout <;> rfl

theorem unpackLive_deliver (checkTrailer : Bool) :
    unpackLive checkTrailer (s.deliver ws) = (unpackLive checkTrailer s).map (State.deliver · ws) := by
  unfold unpackLive
  simp only [State.deliver_params, State.deliver_rxs]
  cases unpack s.params.recOrder s.rxs recOffset liveLayout with
  | error f => rfl
  | ok r =>
    cases checkTrailer with
    | false => rfl
    | true => cases trailerMismatches s.params s.rxs <;> rfl

theorem decodeLive_deliver (checkTrailer : Bool) :
    decodeLive checkTrailer (s.deliver ws) = (decodeLive checkTrailer s).map (State.deliver · ws) := by
  unfold decodeLive
  rw [State.deliver_params, State.deliver_rxs, State.takeError_deliver, State.takeError_deliver, unpackLive_deliver]
  split
  · rfl
  · cases liveVersion s.params s.rxs with
    | error f => rfl
    | ok v =>
      dsimp only
      split
      · rfl
      · split <;> rfl

theorem decodePath_deliver (c : Option Cmd) :
    decodePath c (s.deliver ws) = (decodePath c s).map (State.deliver · ws) := by
  match c with
  | none => rfl
  | some .cfg => exact decodeConfig_deliver s ws
  | some .live => exact decodeLive_deliver s ws true
  | some .lives => exact decodeLive_deliver s ws false

theorem decodeRecord_deliver : decodeRecord (s.deliver ws) = (decodeRecord s).map (State.deliver · ws) := by
  unfold decodeRecord
  simp only [State.deliver_params, State.deliver_rxs, State.deliver_responseObserved, State.deliver_cmdLatched,
    State.clearRecords_deliver, State.takeError_deliver, decodePath_deliver]
  cases s.responseObserved with
  | false => rfl
  | true =>
    match markersPresent s.params s.rxs with
    | .error f => rfl
    | .ok false => rfl
    | .ok true => rfl

theorem deriveAnalog_deliver : deriveAnalog (s.deliver ws) = (deriveAnalog s).map (State.deliver · ws) := by
  unfold deriveAnalog
  rw [State.deliver_syncCountS, State.deliver_caps, State.takeError_deliver]
  split
  · rfl
  · split
    · rfl
    · cases readAnalogWords s.caps <;> rfl

theorem finishWait_deliver : finishWait (s.deliver ws) = (finishWait s).map (State.deliver · ws) := by
  unfold finishWait
  rw [show (s.deliver ws).snapshot = s.snapshot.deliver ws from rfl, decodeRecord_deliver]
  cases decodeRecord s.snapshot with
  | error f => rfl
  | ok u =>
    simp only [Except.map, deriveAnalog_deliver]
    cases deriveAnalog u <;> rfl

theorem receive_deliver (b : Byte) : receive b (s.deliver ws) = (receive b s).deliver ws := by
  rw [receive_eq, receive_eq]
  rfl

theorem runCommand_deliver (c : Cmd) : runCommand c (s.deliver ws) = deliverNext ws (runCommand c s) := by
  unfold runCommand
  rw [State.deliver_phase]
  split <;> rfl

theorem execRxByte_deliver (b : Byte) : execRxByte b (s.deliver ws) = deliverNext ws (execRxByte b s) := by
  unfold execRxByte
  rw [State.deliver_phase, receive_deliver]
  split <;> rfl

theorem execRxErr_deliver : execRxErr (s.deliver ws) = deliverNext ws (execRxErr s) := by
  unfold execRxErr
  rw [State.deliver_phase, State.takeError_deliver]
  split <;> rfl

theorem execWaitDone_deliver : execWaitDone (s.deliver ws) = deliverNext ws (execWaitDone s) := by
  unfold execWaitDone
  rw [State.deliver_phase, finishWait_deliver]
  split
  · cases finishWait s <;> rfl
  · rfl

/-- An event neither reads the queue nor takes a word of it (R64). -/
theorem exec_deliver (i : Instr) : exec i (s.deliver ws) = deliverNext ws (exec i s) := by
  cases i with
  | cmdReadConfig => exact runCommand_deliver s ws .cfg
  | cmdReadLive => exact runCommand_deliver s ws .live
  | cmdReadLiveSimple => exact runCommand_deliver s ws .lives
  | rxByte b => exact execRxByte_deliver s ws b
  | rxErr => exact execRxErr_deliver s ws
  | waitDone => exact execWaitDone_deliver s ws
  | reset => rfl

end

/-- A step takes the oldest word, so words delivered behind it stay behind the queue of the next state (R64). -/
theorem step_deliver {s : State} (ws : List EventWord) (hqueue : s.inputs ≠ []) :
    step (s.deliver ws) = deliverNext ws (step s) := by
  obtain ⟨w, rest, hq⟩ := List.exists_cons_of_ne_nil hqueue
  by_cases hp : s.params.wf = true
  · simp only [step, fetch, State.deliver_params, State.deliver_inputs, hp, hq, List.cons_append, if_true]
    cases decode w with
    | event i => exact exec_deliver { s with inputs := rest } ws i
    | reserved why => rfl
  · have hill : s.params.wf = false := by simpa using hp
    have hstop : step s = .refused .illFormedParams := step_of_fetch_stopped (fetch_of_illFormed hill)
    have hstop' : step (s.deliver ws) = .refused .illFormedParams :=
      step_of_fetch_stopped (fetch_of_illFormed (s := s.deliver ws) hill)
    rw [hstop, hstop']
    rfl

end Sys2Proof.Machine

namespace Sys2Proof.Proofs

open Sys2Proof Sys2Proof.Machine

/-- Settles O7: the step takes the oldest word, and the event it runs does not look at the queue. -/
theorem laterEventsDoNotMatter : Obligations.LaterEventsDoNotMatter := by
  intro s ws hqueue
  rw [step_deliver ws hqueue]
  cases step s <;> rfl

/-- Settles O16: RX_BYTE alone writes RXB and CAP, and it appends. -/
theorem byteSpacesAreAppendOnly : Obligations.ByteSpacesAreAppendOnly := by
  refine ⟨fun i s t hi hexec => ?_, fun s b hphase hroom => ?_, fun s a h => ?_⟩
  · obtain ⟨hrxb, hcap⟩ := exec_fills hi hexec
    exact ⟨fun _ => hrxb.read_other, fun _ => hcap.read_other, hrxb.len_cases, hcap.len_cases⟩
  · have happend : (receive b s).rxb = s.rxb.append b := by rw [receive_rxb_eq, if_pos hroom]
    refine ⟨receive b s, execRxByte_of_not_fatal b hphase, ?_⟩
    rw [happend]
    exact ⟨rfl, s.rxb.append_read_len b⟩
  · exact ⟨ByteSpace.read_eq_none_of_filled h.rxbFilled, ByteSpace.read_eq_none_of_filled h.capFilled⟩

/-- Settles O26: each agent's frame, and that no event writes the parameters or the queue. -/
theorem singleWriters : Obligations.SingleWriters := by
  intro i s t hexec
  refine ⟨fun hagent => exec_coordinator_frame hagent hexec, fun hagent => exec_receiver_frame hagent hexec, ?_,
    exec_params_inputs hexec⟩
  rintro ⟨b, rfl⟩
  exact exec_rxByte_frame hexec

/-- Settles O41: the bytes gather in RXB, WAIT_DONE copies RXB into the snapshot, and no byte writes the snapshot. -/
theorem snapshotHoldsTheBytesBeforeWait : Obligations.SnapshotHoldsTheBytesBeforeWait := by
  intro s before received late h hwaiting hrxb
  have hkept : before.take s.params.rxCap = before :=
    List.take_of_length_le (by simpa [hrxb] using h.rxbBound)
  have hbytes := receiveAll_rxb received (hrxb.trans (congrArg ByteSpace.ofBytes hkept.symm))
  have hwait : (receiveAll received s).phase = .waiting := (receiveAll_phase received s).trans hwaiting
  obtain ⟨t, ht⟩ := (h.receiveAll received).exec_completes .waitDone
  have hsnapshot : t.rxs = (receiveAll received s).rxb ∧ t.phase = .done := by
    obtain ⟨_, _, _, _, _, _, rfl⟩ := execWaitDone_frame ht hwait
    exact ⟨rfl, rfl⟩
  obtain ⟨hrxs, hdone⟩ := hsnapshot
  refine ⟨t, receiveAll late t, ?_, hrxs.trans hbytes, execAll_rxBytes late (by simp [hdone]), ?_⟩
  · rw [execAll_rxBytes_append received _ (by simp [hwaiting])]
    simp only [execAll, ht]
  · simpa [State.snapshotAndResults, and_assoc] using receiveAll_snapshotAndResults late t

/-- Settles O55: a filled byte space holds every byte below its fill count, and the parts of WAIT_DONE read no other. -/
theorem noEventReadsUnfilledBytes : Obligations.NoEventReadsUnfilledBytes := by
  refine ⟨fun sp i n h => memRead_past_len h, fun bs i n h => ?_, fun i s h => h.exec_completes i⟩
  rw [memRead_ofBytes, if_pos h]

end Sys2Proof.Proofs

/-! PROOFS. The encoding family (30_encoding.md): the event-word decoder and its opcode table, the frame and the record
layouts, the fields and the capture operands, the textual form, and the receive index that no rule reads. -/

namespace Sys2Proof

/-! ### The event words -/

@[simp] theorem wordOp_mkWord (op : BitVec 4) (arg : Byte) : wordOp (mkWord op arg) = op :=
  BitVec.extractLsb'_append_eq_left

@[simp] theorem wordArg_mkWord (op : BitVec 4) (arg : Byte) : wordArg (mkWord op arg) = arg :=
  BitVec.extractLsb'_append_eq_right

/-- A word is its two fields (R70). -/
theorem mkWord_wordOp_wordArg (w : EventWord) : mkWord (wordOp w) (wordArg w) = w :=
  BitVec.extractLsb'_append_extractLsb'

/-- The decoder answers an event's word with that event (R71, R72). -/
theorem decode_encode (i : Instr) : decode (encode i) = .event i := by
  cases i with
  | rxByte b => simp [decode, encode]
  | cmdReadConfig | cmdReadLive | cmdReadLiveSimple | rxErr | waitDone | reset => decide

/-- A CMD operand is `sel` when its upper six bits are zero (R71). -/
theorem eq_zero_append_sel {arg : Byte} (h : arg.extractLsb' 2 6 = 0#6) : arg = 0#6 ++ arg.extractLsb' 0 2 := by
  rw [← h]
  exact (BitVec.extractLsb'_append_extractLsb' (w := 6) (len := 2)).symm

/-- The CMD class takes no word but those of its three events (R72). -/
theorem mkWord_of_decodeCmd_event {arg : Byte} {i : Instr} (h : decodeCmd arg = .event i) :
    mkWord 0x0#4 arg = encode i := by
  unfold decodeCmd at h
  split at h
  case isTrue => cases h
  rename_i hhigh
  rw [eq_zero_append_sel (not_not.mp hhigh)]
  split at h
  case isTrue hsel => cases h; rw [hsel]; rfl
  split at h
  case isTrue hsel => cases h; rw [hsel]; rfl
  split at h
  case isTrue hsel => cases h; rw [hsel]; rfl
  case isFalse => cases h

/-- A class without an operand takes the operand zero alone (R71, R74). -/
theorem mkWord_of_decodeNoArg_event {op : BitVec 4} {arg : Byte} {i j : Instr} {why : Reserved}
    (hj : encode j = mkWord op 0#8) (h : decodeNoArg arg j why = .event i) : mkWord op arg = encode i := by
  unfold decodeNoArg at h
  split at h
  case isTrue harg => cases h; rw [harg, hj]
  case isFalse => cases h

/-- A word that decodes to an event is that event's word (R71, R72). -/
theorem eq_encode_of_decode_event {w : EventWord} {i : Instr} (h : decode w = .event i) : w = encode i := by
  rw [← mkWord_wordOp_wordArg w]
  unfold decode at h
  split at h
  case isTrue hop => rw [hop]; exact mkWord_of_decodeCmd_event h
  split at h
  case isTrue hop => cases h; rw [hop]; rfl
  split at h
  case isTrue hop => rw [hop]; exact mkWord_of_decodeNoArg_event rfl h
  split at h
  case isTrue hop => rw [hop]; exact mkWord_of_decodeNoArg_event rfl h
  split at h
  case isTrue hop => rw [hop]; exact mkWord_of_decodeNoArg_event rfl h
  case isFalse => cases h

/-- Decoding inverts encoding, and no other word decodes to an event. -/
theorem decode_eq_event_iff (w : EventWord) (i : Instr) : decode w = .event i ↔ w = encode i :=
  ⟨eq_encode_of_decode_event, fun h => h ▸ decode_encode i⟩

/-! ### The opcode table -/

/-- An event's word matches its row, which is a row of the table (R75). -/
theorem encode_matches_row (i : Instr) : rowOf i ∈ opcodeTable ∧ encode i &&& (rowOf i).mask = (rowOf i).pattern := by
  cases i with
  | cmdReadConfig => exact Laws.EncodeMatchesRow.cmdReadConfig
  | cmdReadLive => exact Laws.EncodeMatchesRow.cmdReadLive
  | cmdReadLiveSimple => exact Laws.EncodeMatchesRow.cmdReadLiveSimple
  | rxByte b => exact Laws.EncodeMatchesRow.rxByte b
  | rxErr => exact Laws.EncodeMatchesRow.rxErr
  | waitDone => exact Laws.EncodeMatchesRow.waitDone
  | reset => exact Laws.EncodeMatchesRow.reset

/-- A full mask leaves a row one word to match. -/
theorem eq_of_and_full_mask {w v : EventWord} (h : w &&& 0xFFF#12 = v) : w = v := by
  rw [← h]
  exact (BitVec.and_allOnes (x := w)).symm

/-- The words of the RX_BYTE row are those of the RX_BYTE events (R71). -/
theorem eq_encode_rxByte_of_mask {w : EventWord} (h : w &&& 0xF00#12 = 0x100#12) :
    w = encode (.rxByte (wordArg w)) := by
  have hop : wordOp w = 0x1#4 := by
    have hmask : wordOp w = wordOp (w &&& 0xF00#12) := by
      simp only [wordOp, BitVec.extractLsb'_and]
      exact (BitVec.and_allOnes (x := w.extractLsb' 8 4)).symm
    rw [hmask, h]
    rfl
  rw [encode, ← hop, mkWord_wordOp_wordArg]

/-- The rows of the table are the rows of the seven events. -/
theorem exists_encode_of_matches {w : EventWord} {r : TableRow} (hr : r ∈ opcodeTable)
    (h : w &&& r.mask = r.pattern) : ∃ i, w = encode i ∧ rowOf i = r := by
  simp only [opcodeTable, List.mem_cons, List.not_mem_nil, or_false] at hr
  obtain rfl | rfl | rfl | rfl | rfl | rfl | rfl := hr
  · exact ⟨.cmdReadConfig, eq_of_and_full_mask h, rfl⟩
  · exact ⟨.cmdReadLive, eq_of_and_full_mask h, rfl⟩
  · exact ⟨.cmdReadLiveSimple, eq_of_and_full_mask h, rfl⟩
  · exact ⟨.rxByte (wordArg w), eq_encode_rxByte_of_mask h, rfl⟩
  · exact ⟨.rxErr, eq_of_and_full_mask h, rfl⟩
  · exact ⟨.waitDone, eq_of_and_full_mask h, rfl⟩
  · exact ⟨.reset, eq_of_and_full_mask h, rfl⟩

/-- A word that matches a row of the table decodes to an event of that row (R75). -/
theorem decode_of_matches {w : EventWord} {r : TableRow} (hr : r ∈ opcodeTable) (h : w &&& r.mask = r.pattern) :
    ∃ i, decode w = .event i ∧ rowOf i = r := by
  obtain ⟨i, rfl, hrow⟩ := exists_encode_of_matches hr h
  exact ⟨i, decode_encode i, hrow⟩

/-! ### The reserved words -/

/-- R74: the reserved words, by their two fields. -/
def IsReservedWord (w : EventWord) : Prop :=
  (4 ≤ (w.extractLsb' 8 4).toNat ∧ (w.extractLsb' 8 4).toNat ≤ 14) ∨
    (w.extractLsb' 8 4 = 0#4 ∧ (w.extractLsb' 2 6 ≠ 0#6 ∨ w.extractLsb' 0 2 = 3#2)) ∨
    ((w.extractLsb' 8 4 = 2#4 ∨ w.extractLsb' 8 4 = 3#4 ∨ w.extractLsb' 8 4 = 15#4) ∧ w.extractLsb' 0 8 ≠ 0#8)

/-- No event's word is reserved. -/
theorem not_isReservedWord_encode (i : Instr) : ¬ IsReservedWord (encode i) := by
  cases i with
  | rxByte b =>
    have hop : (encode (.rxByte b)).extractLsb' 8 4 = 0x1#4 := wordOp_mkWord 0x1#4 b
    simp [IsReservedWord, hop]
  | cmdReadConfig | cmdReadLive | cmdReadLiveSimple | rxErr | waitDone | reset => unfold IsReservedWord; decide

/-- A reserved word decodes to no event (R74). -/
theorem IsReservedWord.decode_eq_reserved {w : EventWord} (h : IsReservedWord w) :
    ∃ why, decode w = .reserved why := by
  cases hd : decode w with
  | event i => exact absurd (eq_encode_of_decode_event hd ▸ h) (not_isReservedWord_encode i)
  | reserved why => exact ⟨why, rfl⟩

/-! ### The frame -/

/-- `FRAME(c)` is the frame's body and its literal checksum, high byte first (R54, R76). -/
theorem frame_eq (p : Params) (c : Cmd) :
    frame p c = [0x10#8, (p.cmd c).cmdByte] ++ (p.cmd c).payload ++
      [0x10#8, p.eofByte, (p.cmd c).ckLit.extractLsb' 8 8, (p.cmd c).ckLit.extractLsb' 0 8] := by
  simp [frame, frameBody, checksumBytes, dle]

end Sys2Proof

namespace Sys2Proof.Machine

/-- A step takes a word that decodes to no event and sets the mark, and does nothing else (R74). -/
theorem step_of_decode_reserved {s : State} {w : EventWord} {ws : List EventWord} {why : Reserved}
    (hp : s.params.wf = true) (hq : s.inputs = w :: ws) (hd : decode w = .reserved why) :
    step s = .next { s with inputs := ws, refused := true } := by
  simp [step, fetch, hp, hq, hd, refuse, State.markRefused]

/-! ### Fields and capture operands -/

/-- The value of a concatenation of words. -/
theorem toNat_append_eq_add {m n : Nat} (x : BitVec m) (y : BitVec n) :
    (x ++ y).toNat = 2 ^ n * x.toNat + y.toNat := by
  rw [BitVec.toNat_append, ← Nat.shiftLeft_add_eq_or_of_lt y.isLt, Nat.shiftLeft_eq, Nat.mul_comm]

theorem u16of_le_toNat (b0 b1 : Byte) : (u16of .le b0 b1).toNat = b0.toNat + 256 * b1.toNat :=
  (toNat_append_eq_add b1 b0).trans (Nat.add_comm _ _)

theorem u16of_be_toNat (b0 b1 : Byte) : (u16of .be b0 b1).toNat = 256 * b0.toNat + b1.toNat :=
  toNat_append_eq_add b0 b1

theorem u32of_be_toNat (b0 b1 b2 b3 : Byte) :
    (u32of .be b0 b1 b2 b3).toNat =
      2 ^ 24 * b0.toNat + 2 ^ 16 * b1.toNat + 2 ^ 8 * b2.toNat + b3.toNat := by
  simp only [u32of, toNat_append_eq_add]
  omega

/-- LE reads the bytes of BE from the other end (R82). -/
theorem u32of_le_eq_be (b0 b1 b2 b3 : Byte) : u32of .le b0 b1 b2 b3 = u32of .be b3 b2 b1 b0 := rfl

theorem u32of_le_toNat (b0 b1 b2 b3 : Byte) :
    (u32of .le b0 b1 b2 b3).toNat =
      b0.toNat + 2 ^ 8 * b1.toNat + 2 ^ 16 * b2.toNat + 2 ^ 24 * b3.toNat := by
  rw [u32of_le_eq_be, u32of_be_toNat]
  omega

/-- Masking with `MASK7` discards bit 7 (R88). -/
theorem low7_eq_mod (b : Byte) : low7 b = b.toNat % 128 := by
  rw [low7, mask7, BitVec.toNat_and]
  exact Nat.and_two_pow_sub_one_eq_mod b.toNat 7

theorem low7_le (b : Byte) : low7 b ≤ 127 := by
  rw [low7_eq_mod]
  omega

theorem pair7_le (h l : Byte) : pair7 h l ≤ 16383 := by
  have hh := low7_le h
  have hl := low7_le l
  unfold pair7
  omega

theorem sum7_le (a b : Byte) : sum7 a b ≤ 254 :=
  Nat.add_le_add (low7_le a) (low7_le b)

/-! ### The textual form -/

/-- Upper-case digits are read back (R89). -/
theorem digitValue_hexDigit (n : BitVec 4) : digitValue (hexDigit n) = some n := by
  revert n
  decide

theorem parseByte_byteText (b : Byte) : parseByte (byteText b) = some b := by
  simp only [byteText, parseByte, digitValue_hexDigit]
  exact congrArg some BitVec.extractLsb'_append_extractLsb'

/-- The characters that end a word of a line (R89, log 18). -/
def separators : List Char := [';', ' ', '\t', ',', '(', ')']

theorem hexDigit_not_separator (n : BitVec 4) : hexDigit n ∉ separators := by
  revert n
  decide

/-- Characters that end no word gather in the word read so far. -/
theorem wordsOf_append {cs : List Char} (hcs : ∀ c ∈ cs, c ∉ separators) (rest word : List Char) :
    wordsOf (cs ++ rest) word = wordsOf rest (cs.reverse ++ word) := by
  induction cs generalizing word with
  | nil => rfl
  | cons c cs ih =>
    obtain ⟨hc, hcs⟩ := List.forall_mem_cons.mp hcs
    simp only [separators, List.mem_cons, List.not_mem_nil, or_false, not_or] at hc
    simp [wordsOf, hc, ih hcs]

/-- A line that ends in a word. -/
theorem wordsOf_word {cs : List Char} (hcs : ∀ c ∈ cs, c ∉ separators) (hne : cs ≠ []) : wordsOf cs [] = [cs] := by
  have h := wordsOf_append hcs [] []
  simpa [wordsOf, hne] using h

/-- A word, a blank and the rest of the line. -/
theorem wordsOf_word_blank {cs : List Char} (hcs : ∀ c ∈ cs, c ∉ separators) (hne : cs ≠ []) (rest : List Char) :
    wordsOf (cs ++ ' ' :: rest) [] = cs :: wordsOf rest [] := by
  rw [wordsOf_append hcs]
  simp [wordsOf, hne]

theorem byteText_not_separator (b : Byte) : ∀ c ∈ byteText b, c ∉ separators := by
  simp only [byteText, List.forall_mem_cons]
  exact ⟨by decide, by decide, hexDigit_not_separator _, hexDigit_not_separator _, by simp⟩

/-- The line of an RX_BYTE is the word `rx` and its byte (R89). -/
theorem wordsOf_eventText_rxByte (b : Byte) : wordsOf (eventText (.rxByte b)) [] = [kwRx, byteText b] := by
  rw [eventText, wordsOf_word_blank (by simp [kwRx, separators]) (by decide),
    wordsOf_word (byteText_not_separator b) (List.cons_ne_nil _ _)]

/-- The line of every event reads back as that event (R89). -/
theorem parseLine_eventText (i : Instr) : parseLine (eventText i) = some (.one i) := by
  cases i with
  | rxByte b => simp [parseLine, wordsOf_eventText_rxByte, parseWords, parseRx, parseBytes, parseByte_byteText]
  | cmdReadConfig | cmdReadLive | cmdReadLiveSimple | rxErr | waitDone | reset => decide

/-- A line of bytes assembles to their RX_BYTE words in order (R90). -/
theorem encode_rxBytes (bs : List Byte) : (bs.map Instr.rxByte).map encode = bs.map (fun b => 0x1#4 ++ b) := by
  rw [List.map_map]
  rfl

theorem assemble_singleton (p : Params) (l : Line) : assemble p [l] = (l.expand p).map encode := by
  rw [assemble, List.flatMap_singleton]

/-! ### Receive index 2 -/

/-- Two byte spaces that no rule tells apart: DECODE reads the two marker bytes and, from index 3 on, the record and its
trailer (R57, R79). -/
structure ReadAlike (a b : ByteSpace) : Prop where
  len : b.len = a.len
  markers : memRead b 0 2 = memRead a 0 2
  record : ∀ i n, 3 ≤ i → memRead b i n = memRead a i n

theorem readAlike_of_index_two (b0 b1 x y : Byte) (rest : List Byte) :
    ReadAlike (.ofBytes (b0 :: b1 :: x :: rest)) (.ofBytes (b0 :: b1 :: y :: rest)) where
  len := rfl
  markers := by simp [memRead_ofBytes]
  record i n hi := by
    obtain ⟨k, rfl⟩ := Nat.exists_eq_add_of_le' hi
    simp [memRead_ofBytes]

/-- A state with the byte space `sp` in RXB and in its snapshot. -/
def State.withReceived (sp : ByteSpace) (s : State) : State := { s with rxb := sp, rxs := sp }

section
variable {s : State} {sp : ByteSpace}

@[simp] theorem State.withReceived_params : (s.withReceived sp).params = s.params := rfl
@[simp] theorem State.withReceived_rxs : (s.withReceived sp).rxs = sp := rfl
@[simp] theorem State.withReceived_caps : (s.withReceived sp).caps = s.caps := rfl
@[simp] theorem State.withReceived_syncCountS : (s.withReceived sp).syncCountS = s.syncCountS := rfl
@[simp] theorem State.withReceived_cmdLatched : (s.withReceived sp).cmdLatched = s.cmdLatched := rfl
@[simp] theorem State.withReceived_responseObserved :
    (s.withReceived sp).responseObserved = s.responseObserved := rfl

theorem State.takeError_withReceived (e : ErrorKind) :
    (s.withReceived sp).takeError e = (s.takeError e).withReceived sp := by
  cases e <;> rfl

theorem State.clearRecords_withReceived : (s.withReceived sp).clearRecords = s.clearRecords.withReceived sp := rfl

theorem deriveAnalog_withReceived :
    deriveAnalog (s.withReceived sp) = (deriveAnalog s).map (State.withReceived sp) := by
  unfold deriveAnalog
  rw [State.withReceived_syncCountS, State.withReceived_caps, State.takeError_withReceived]
  split
  · rfl
  · split
    · rfl
    · cases readAnalogWords s.caps <;> rfl

end

section
variable {a b : ByteSpace} (h : ReadAlike a b)
include h

theorem ReadAlike.markersPresent (p : Params) : markersPresent p b = markersPresent p a := by
  simp only [Machine.markersPresent, h.len, h.markers]

theorem ReadAlike.trailerMismatches (p : Params) : trailerMismatches p b = trailerMismatches p a := by
  simp only [Machine.trailerMismatches, h.len, h.record trailerOffset 2 (by decide)]

theorem ReadAlike.liveVersion (p : Params) : liveVersion p b = liveVersion p a := by
  simp only [Machine.liveVersion, h.record recOffset 2 (by decide)]

theorem ReadAlike.unpack {F : Type} (order : RecOrder) (layout : List (LayoutRow F)) :
    unpack order b recOffset layout = unpack order a recOffset layout := by
  induction layout with
  | nil => rfl
  | cons row rows ih => simp only [Machine.unpack, ih, h.record _ _ (Nat.le_add_right recOffset row.offset)]

end

section
variable {s : State} {sp : ByteSpace} (h : ReadAlike s.rxs sp)
include h

theorem decodeConfig_withReceived :
    decodeConfig (s.withReceived sp) = (decodeConfig s).map (State.withReceived sp) := by
  unfold decodeConfig
  simp only [State.withReceived_params, State.withReceived_rxs, State.takeError_withReceived, h.len, h.unpack]
  split
  · rfl
  · cases unpack s.params.recOrder s.rxs recOffset s.params.configLayout <;> rfl

theorem unpackLive_withReceived (checkTrailer : Bool) :
    unpackLive checkTrailer (s.withReceived sp) = (unpackLive checkTrailer s).map (State.withReceived sp) := by
  unfold unpackLive
  simp only [State.withReceived_params, State.withReceived_rxs, h.unpack, h.trailerMismatches]
  cases unpack s.params.recOrder s.rxs recOffset liveLayout with
  | error f => rfl
  | ok r =>
    cases checkTrailer with
    | false => rfl
    | true => cases trailerMismatches s.params s.rxs <;> rfl

theorem decodeLive_withReceived (checkTrailer : Bool) :
    decodeLive checkTrailer (s.withReceived sp) = (decodeLive checkTrailer s).map (State.withReceived sp) := by
  unfold decodeLive
  simp only [State.withReceived_params, State.withReceived_rxs, State.takeError_withReceived, h.len, h.liveVersion,
    unpackLive_withReceived h]
  split
  · rfl
  · cases liveVersion s.params s.rxs with
    | error f => rfl
    | ok v =>
      dsimp only
      split
      · rfl
      · split <;> rfl

theorem decodePath_withReceived (c : Option Cmd) :
    decodePath c (s.withReceived sp) = (decodePath c s).map (State.withReceived sp) := by
  match c with
  | none => rfl
  | some .cfg => exact decodeConfig_withReceived h
  | some .live => exact decodeLive_withReceived h true
  | some .lives => exact decodeLive_withReceived h false

/-- DECODE gives the same results from byte spaces that no rule tells apart (R141). -/
theorem decodeRecord_withReceived :
    decodeRecord (s.withReceived sp) = (decodeRecord s).map (State.withReceived sp) := by
  unfold decodeRecord
  simp only [State.withReceived_params, State.withReceived_rxs, State.withReceived_responseObserved,
    State.withReceived_cmdLatched, State.clearRecords_withReceived, State.takeError_withReceived, h.markersPresent,
    decodePath_withReceived (s := s.clearRecords) h]
  cases s.responseObserved with
  | false => rfl
  | true =>
    match markersPresent s.params s.rxs with
    | .error f => rfl
    | .ok false => rfl
    | .ok true => rfl

end

/-- WAIT_DONE gives the same results from received bytes that no rule tells apart (R140). -/
theorem execWaitDone_results_of_readAlike {s t t' : State} {sp : ByteSpace} (h : ReadAlike s.rxb sp)
    (ht : execWaitDone s = .next t) (ht' : execWaitDone { s with rxb := sp } = .next t') :
    t'.resCode = t.resCode ∧ t'.cfg = t.cfg ∧ t'.live = t.live ∧ t'.trailerMismatch = t.trailerMismatch ∧
      t'.anCode = t.anCode ∧ t'.analog = t.analog ∧ t'.phase = t.phase := by
  obtain ⟨hphase, rfl⟩ | ⟨hphase, u, hu, v, hv, rfl⟩ := execWaitDone_cases ht <;>
    obtain ⟨hphase', rfl⟩ | ⟨hphase', u', hu', v', hv', rfl⟩ := execWaitDone_cases ht'
  case inl.inl => exact ⟨rfl, rfl, rfl, rfl, rfl, rfl, rfl⟩
  case inl.inr => exact absurd hphase' hphase
  case inr.inl => exact absurd hphase hphase'
  case inr.inr =>
    have hrecord := decodeRecord_withReceived (s := s.snapshot) h
    rw [hu] at hrecord
    obtain rfl : u' = u.withReceived sp := Except.ok.inj (hu'.symm.trans hrecord)
    rw [deriveAnalog_withReceived, hv] at hv'
    obtain rfl : v' = v.withReceived sp := (Except.ok.inj hv').symm
    exact ⟨rfl, rfl, rfl, rfl, rfl, rfl, rfl⟩

end Sys2Proof.Machine

namespace Sys2Proof.Proofs

open Sys2Proof Sys2Proof.Machine

/-- Settles O5: the classes of R71 are told apart by `op`, and within a class the operand leaves one event. -/
theorem decodeEncodeAgree : Obligations.DecodeEncodeAgree :=
  decode_eq_event_iff

/-- Settles O2: a reserved word is no event's word, so it decodes to no event, and the step refuses it. -/
theorem reservedWordIsRefused : Obligations.ReservedWordIsRefused := by
  intro s w ws hp hq hreserved
  obtain ⟨why, hd⟩ := IsReservedWord.decode_eq_reserved hreserved
  exact step_of_decode_reserved hp hq hd

/-- Settles O6: a word that matches a row is the word of an event of that row, so the decoder names the row. -/
theorem decoderFollowsTheOpcodeTable : Obligations.DecoderFollowsTheOpcodeTable := by
  refine ⟨fun w i hd => ?_, fun w r hr hw => decode_of_matches hr hw, fun w r q hr hq hwr hwq => ?_⟩
  · rw [eq_encode_of_decode_event hd]
    exact encode_matches_row i
  · obtain ⟨i, hi, rfl⟩ := decode_of_matches hr hwr
    obtain ⟨j, hj, rfl⟩ := decode_of_matches hq hwq
    rw [Decoded.event.inj (hi.symm.trans hj)]

/-- Settles O4: sample words of every class and of every reason to be reserved. -/
theorem writtenOutWordsDecode : Obligations.WrittenOutWordsDecode := by
  unfold Obligations.WrittenOutWordsDecode
  decide

/-- Settles O10: the frame's bytes, written out. -/
theorem frameLayout : Obligations.FrameLayout :=
  frame_eq

/-- Settles O36: the sizes and places computed from the rows of the default layouts. -/
theorem layoutSizes : Obligations.LayoutSizes := by
  unfold Obligations.LayoutSizes
  decide

/-- Settles O35: a field of 16 or 32 bits is the concatenation of its bytes. -/
theorem fieldByteOrders : Obligations.FieldByteOrders :=
  ⟨fun b0 b1 => ⟨⟨_, rfl, u16of_le_toNat b0 b1⟩, ⟨_, rfl, u16of_be_toNat b0 b1⟩⟩,
    fun b0 b1 b2 b3 => ⟨⟨_, rfl, rfl, u32of_le_toNat b0 b1 b2 b3⟩, ⟨_, rfl, rfl, u32of_be_toNat b0 b1 b2 b3⟩⟩⟩

/-- Settles O47: the mask keeps seven bits, and the ranges follow. -/
theorem captureOperandRanges : Obligations.CaptureOperandRanges := by
  refine ⟨fun h l => ⟨rfl, pair7_le h l, ?_, rfl, sum7_le h l⟩, fun c2 c3 c8 c9 c10 c11 c32 c33 => ?_⟩
  · rw [pair7, low7_eq_mod, low7_eq_mod]
  · exact ⟨rfl, rfl, rfl, rfl, pair7_le c2 c3, Nat.mul_le_mul_left 4 (pair7_le c8 c9),
      Nat.mul_le_mul_left 4 (pair7_le c10 c11), Nat.mul_le_mul_left 128 (sum7_le c32 c33)⟩

/-- Settles O8: a line splits into its words, which the parser reads back. -/
theorem eventTextReadsBack : Obligations.EventTextReadsBack := by
  refine ⟨parseLine_eventText, fun p bs => ?_, fun p => ?_, fun p c => ?_⟩
  · exact (assemble_singleton p _).trans (encode_rxBytes bs)
  · rw [assemble_singleton]
    rfl
  · exact (assemble_singleton p _).trans (encode_rxBytes (frame p c))

/-- Settles O39: no part of DECODE reads between the marker bytes and the record, and DERIVE_ANALOG reads CAPS. -/
theorem receiveIndexTwoIsNotRead : Obligations.ReceiveIndexTwoIsNotRead := by
  intro s s' t t' b0 b1 x y rest hrxb hs' ht ht'
  subst hs'
  exact execWaitDone_results_of_readAlike (hrxb ▸ readAlike_of_index_two b0 b1 x y rest) ht ht'

end Sys2Proof.Proofs

/-! PROOFS. The frame encoder family (40_frame_encoder.md): CHECKSUM16, the frame with its checksum, the CMD events, and
the transmit log along a run without RESET. -/

namespace Sys2Proof

/-! ### CHECKSUM16 -/

/-- The model's sum is the library's sum of the byte values. -/
theorem byteSum_eq_sum (bs : List Byte) : byteSum bs = (bs.map BitVec.toNat).sum := by
  induction bs with
  | nil => rfl
  | cons b bs ih => rw [byteSum, ih, List.map_cons, List.sum_cons]

/-- A byte adds at most 255 to the sum. -/
theorem byteSum_le (bs : List Byte) : byteSum bs ≤ 255 * bs.length := by
  induction bs with
  | nil => exact le_rfl
  | cons b bs ih =>
    have hb : b.toNat < 256 := b.isLt
    rw [byteSum, List.length_cons]
    omega

/-- The reduction modulo `CK_MOD` is all that 16 bits reduce (R100). -/
theorem checksum16_toNat (bs : List Byte) : (checksum16 bs).toNat = byteSum bs % 65536 := by
  rw [checksum16, BitVec.toNat_ofNat]
  exact Nat.mod_mod _ _

/-- Up to 257 bytes the sum is below 65536, and nothing wraps (R100). -/
theorem checksum16_toNat_of_short {bs : List Byte} (h : bs.length ≤ 257) : (checksum16 bs).toNat = byteSum bs := by
  have hsum := byteSum_le bs
  rw [checksum16_toNat, Nat.mod_eq_of_lt (by omega)]

/-- The checksum of `n` equal bytes. -/
theorem checksum16_replicate_toNat (n : Nat) (b : Byte) :
    (checksum16 (List.replicate n b)).toNat = n * b.toNat % 65536 := by
  rw [checksum16_toNat, byteSum_eq_sum, List.map_replicate, List.sum_replicate, smul_eq_mul]

/-! ### The frame and its checksum -/

/-- A frame's bytes before the checksum, written out (R76, R100). -/
theorem frameBody_eq (p : Params) (c : Cmd) :
    frameBody p c = [0x10#8, (p.cmd c).cmdByte] ++ (p.cmd c).payload ++ [0x10#8, p.eofByte] := rfl

@[simp] theorem frameBody_length (p : Params) (c : Cmd) : (frameBody p c).length = 4 + (p.cmd c).payload.length := by
  simp only [frameBody, List.length_append, List.length_cons, List.length_nil]
  omega

/-- With well-formed parameters the literal checksum of a frame is the computed one (R9 (a)). -/
theorem frame_eq_body_append_checksum {p : Params} (hp : p.wf = true) (c : Cmd) :
    frame p c = frameBody p c ++ checksumBytes (checksum16 (frameBody p c)) := by
  obtain ⟨hck, -⟩ := (Params.wf_iff p).mp hp
  rw [frame, (checksumAgrees_iff p c).mp (hck c), ← frameBody_eq]

theorem frame_take_body (p : Params) (c : Cmd) : (frame p c).take (4 + (p.cmd c).payload.length) = frameBody p c :=
  List.take_left' (frameBody_length p c)

theorem frame_drop_body {p : Params} (hp : p.wf = true) (c : Cmd) :
    (frame p c).drop (4 + (p.cmd c).payload.length) = checksumBytes (checksum16 (frameBody p c)) := by
  rw [frame_eq_body_append_checksum hp]
  exact List.drop_left' (frameBody_length p c)

theorem frame_head? (p : Params) (c : Cmd) : (frame p c).head? = some 0x10#8 := rfl

theorem frame_length (p : Params) (c : Cmd) : (frame p c).length = 6 + (p.cmd c).payload.length := by
  rw [frame, List.length_append, frameBody_length]
  simp only [checksumBytes, List.length_cons, List.length_nil]
  omega

end Sys2Proof

namespace Sys2Proof.Machine

/-! ### The CMD events -/

/-- The three CMD events differ in their command alone (R106 to R108). -/
theorem exec_commandEvent (c : Cmd) (s : State) : exec (commandEvent c) s = runCommand c s := by
  cases c <;> rfl

theorem runCommand_of_idle {s : State} (c : Cmd) (h : s.phase = .idle) :
    runCommand c s = .next
      { s with cmdLatched := some c, txLog := s.txLog ++ [frame s.params c], phase := .waiting } :=
  if_pos h

theorem runCommand_of_not_idle {s : State} (c : Cmd) (h : s.phase ≠ .idle) :
    runCommand c s = .next { s with refused := true } :=
  if_neg h

/-! ### Runs without RESET -/

/-- A run that answers a next state does so event by event. -/
theorem execAll_cons_next {i : Instr} {is : List Instr} {s t : State} (h : execAll (i :: is) s = .next t) :
    ∃ u, exec i s = .next u ∧ execAll is u = .next t := by
  unfold execAll at h
  split at h
  case h_1 u hu => exact ⟨u, hu, h⟩
  case h_2 => cases h
  case h_3 => cases h

/-- A property that every event but RESET keeps holds after every run without RESET (R64). -/
theorem execAll_induction_of_no_reset {P : State → Prop}
    (hstep : ∀ i s t, i ≠ .reset → exec i s = .next t → P s → P t) {is : List Instr} {s t : State}
    (his : ∀ i ∈ is, i ≠ .reset) (h : execAll is s = .next t) (hs : P s) : P t := by
  induction is generalizing s with
  | nil => cases h; exact hs
  | cons i is ih =>
    obtain ⟨u, hu, hrest⟩ := execAll_cons_next h
    obtain ⟨hi, his⟩ := List.forall_mem_cons.mp his
    exact ih his hrest (hstep i s u hi hu hs)

/-- Outside IDLE no event but RESET emits a frame, and none of them leads back to IDLE (R21, R105). -/
theorem exec_keeps_txLog_of_not_idle {i : Instr} {s t : State} (hi : i ≠ .reset) (hexec : exec i s = .next t)
    (hbusy : s.phase ≠ .idle) : t.phase ≠ .idle ∧ t.txLog = s.txLog := by
  cases exec_effect hexec with
  | refused => exact ⟨hbusy, rfl⟩
  | command c hidle => exact absurd hidle hbusy
  | byte b => exact ⟨by simpa using hbusy, by rw [receive_eq]⟩
  | readError => exact ⟨by simp, rfl⟩
  | waitDone _ hrecord hanalog =>
    obtain ⟨_, _, _, _, rfl⟩ := decodeRecord_frame hrecord
    obtain ⟨_, _, rfl⟩ := deriveAnalog_frame hanalog
    exact ⟨by simp, rfl⟩
  | reset => exact absurd rfl hi

/-- From a state outside IDLE no run without RESET emits a frame (R109). -/
theorem execAll_txLog_of_not_idle {is : List Instr} {s t : State} (his : ∀ i ∈ is, i ≠ .reset)
    (h : execAll is s = .next t) (hbusy : s.phase ≠ .idle) : t.txLog = s.txLog := by
  have hrun : t.phase ≠ .idle ∧ t.txLog = s.txLog :=
    execAll_induction_of_no_reset (P := fun u => u.phase ≠ .idle ∧ u.txLog = s.txLog)
      (fun i u v hi hexec ⟨hu, hlog⟩ => by
        obtain ⟨hv, hkept⟩ := exec_keeps_txLog_of_not_idle hi hexec hu
        exact ⟨hv, hkept.trans hlog⟩)
      his h ⟨hbusy, rfl⟩
  exact hrun.2

/-- A CMD event leaves the block outside IDLE, whether it is admitted or refused (R105). -/
theorem runCommand_phase_ne_idle {c : Cmd} {s t : State} (h : runCommand c s = .next t) : t.phase ≠ .idle := by
  obtain ⟨-, rfl⟩ | ⟨hbusy, rfl⟩ := runCommand_cases h
  · simp
  · exact hbusy

end Sys2Proof.Machine

namespace Sys2Proof.Proofs

open Sys2Proof Sys2Proof.Machine

/-- Settles O9: the checksum's value is the sum modulo 65536, and R9 (a) makes a frame's literal checksum this one. -/
theorem checksumIsSumModulo65536 : Obligations.ChecksumIsSumModulo65536 := by
  refine ⟨fun bs => ?_, rfl, ?_, ?_, by decide, fun bs hshort => ?_, fun p c hp => ⟨?_, ?_⟩⟩
  · rw [checksum16_toNat, byteSum_eq_sum]
  · exact BitVec.eq_of_toNat_eq (checksum16_replicate_toNat 257 0xFF#8)
  · exact BitVec.eq_of_toNat_eq (checksum16_replicate_toNat 258 0xFF#8)
  · rw [checksum16_toNat_of_short hshort, byteSum_eq_sum]
  · exact frame_take_body p c
  · exact frame_drop_body hp c

/-- Settles O11: the frame is its body and the body's checksum; a CMD event leaves the block outside IDLE, where no
event but RESET emits anything. -/
theorem frameProperties : Obligations.FrameProperties := by
  refine ⟨fun p c hp => ⟨frame_head? p c, frame_length p c, ?_⟩, fun s t c hexec => ?_⟩
  · rw [frame_take_body]
    exact frame_drop_body hp c
  · rw [exec_commandEvent] at hexec
    refine ⟨fun hidle => ?_, fun hbusy => ?_, fun is u his hrun => ?_⟩
    · rw [runCommand_of_idle c hidle] at hexec
      cases hexec
      rfl
    · rw [runCommand_of_not_idle c hbusy] at hexec
      cases hexec
      rfl
    · exact execAll_txLog_of_not_idle his hrun (runCommand_phase_ne_idle hexec)

/-- Settles O12: each CMD event is `runCommand` of its command, which the phase decides. -/
theorem commandEventsEmitTheirFrame : Obligations.CommandEventsEmitTheirFrame := by
  refine fun s => ⟨fun hidle => ?_, fun hbusy => ?_⟩
  · exact ⟨runCommand_of_idle .cfg hidle, runCommand_of_idle .live hidle, runCommand_of_idle .lives hidle⟩
  · exact ⟨runCommand_of_not_idle .cfg hbusy, runCommand_of_not_idle .live hbusy, runCommand_of_not_idle .lives hbusy⟩

end Sys2Proof.Proofs

/-! PROOFS. The stream receiver family (41_stream_receiver.md): RX_BYTE in either capture order, the detector and the
capture along a run without RESET, RX_ERR and FATAL, and the received bytes that DECODE never reads. -/

namespace Sys2Proof.Machine

/-! ### RX_BYTE and the detector -/

/-- The word of RX_BYTE has its byte in the low bits (R71, R72). -/
theorem encode_rxByte_eq_or (b : Byte) : encode (.rxByte b) = 0x100#12 ||| b.setWidth 12 := by
  rw [encode, mkWord, BitVec.append_def, BitVec.shiftLeftZeroExtend_eq, BitVec.setWidth'_eq]
  rfl

/-- Under TOGGLE_FIRST the capture append tests `capturing` after this byte's toggle (R120). -/
theorem State.capturesNow_of_toggleFirst {s : State} (b : Byte) (h : s.params.captureOrder = .toggleFirst) :
    s.capturesNow b = if s.markerSeen b then !s.capturing else s.capturing := by
  rw [State.capturesNow, h]

/-- Under APPEND_FIRST it tests `capturing` as it was (R125). -/
theorem State.capturesNow_of_appendFirst {s : State} (b : Byte) (h : s.params.captureOrder = .appendFirst) :
    s.capturesNow b = s.capturing := by
  rw [State.capturesNow, h]

/-- With `capturing` off, only a byte that completes a marker can be captured (R120, R125). -/
theorem State.capturesNow_eq_false {s : State} {b : Byte} (hoff : s.capturing = false)
    (hseen : s.markerSeen b = false) : s.capturesNow b = false := by
  unfold State.capturesNow
  split <;> simp [hseen, hoff]

theorem receive_capturing (s : State) (b : Byte) :
    (receive b s).capturing = if s.markerSeen b then !s.capturing else s.capturing := by
  rw [receive_eq]

/-- The detector of `t` stands where that of `s` stood, or one toggle further, of at most two (R121, R126 (a)). -/
def State.DetectorFrom (s t : State) : Prop :=
  (t.syncCount = s.syncCount ∧ t.capturing = s.capturing) ∨
  (t.syncCount.toNat = s.syncCount.toNat + 1 ∧ t.syncCount.toNat ≤ 2 ∧ t.capturing = !s.capturing)

/-- RX_BYTE toggles the detector on a marker, which the detector sees only below two toggles (R121). -/
theorem receive_detectorFrom (s : State) (b : Byte) : s.DetectorFrom (receive b s) := by
  unfold State.DetectorFrom
  rw [receive_syncCount, receive_capturing]
  by_cases hseen : s.markerSeen b = true
  · obtain ⟨-, -, hcount⟩ := (s.markerSeen_iff b).mp hseen
    have hsum : (s.syncCount + 1#2).toNat = s.syncCount.toNat + 1 := by bv_omega
    rw [if_pos hseen, if_pos hseen]
    exact .inr ⟨hsum, by omega, rfl⟩
  · rw [if_neg hseen, if_neg hseen]
    exact .inl ⟨rfl, rfl⟩

/-- RX_BYTE alone writes the detector among the events but RESET (R126 (a)). -/
theorem exec_detectorFrom {i : Instr} {s t : State} (hi : i ≠ .reset) (hexec : exec i s = .next t) :
    s.DetectorFrom t := by
  cases exec_effect hexec with
  | refused | command | readError => exact .inl ⟨rfl, rfl⟩
  | byte b => exact receive_detectorFrom s b
  | waitDone _ hrecord hanalog =>
    obtain ⟨_, _, _, _, rfl⟩ := decodeRecord_frame hrecord
    obtain ⟨_, _, rfl⟩ := deriveAnalog_frame hanalog
    exact .inl ⟨rfl, rfl⟩
  | reset => exact absurd rfl hi

/-! ### The capture after the second marker -/

theorem State.Inv.capturing_eq_false {s : State} (h : s.Inv) (htwo : s.syncCount = 2#2) : s.capturing = false := by
  simpa [htwo] using h.capturingIff

/-- After two toggles no byte completes a marker and none is captured (R126 (b)). -/
theorem State.Inv.receive_cap_of_two_markers {s : State} (h : s.Inv) (htwo : s.syncCount = 2#2) (b : Byte) :
    (Machine.receive b s).cap = s.cap := by
  have hseen : s.markerSeen b = false := by simp [State.markerSeen, syncMax, htwo]
  simp [receive_cap_eq, State.capturesNow_eq_false (h.capturing_eq_false htwo) hseen]

/-- After two toggles every event but RESET leaves `sync_count` and CAP (R126 (b)). -/
theorem State.Inv.exec_keeps_cap_of_two_markers {i : Instr} {s t : State} (h : s.Inv) (hi : i ≠ .reset)
    (hexec : exec i s = .next t) (htwo : s.syncCount = 2#2) : t.syncCount = 2#2 ∧ t.cap = s.cap := by
  constructor
  · obtain ⟨hsync, -⟩ | ⟨hgrown, hmax, -⟩ := exec_detectorFrom hi hexec
    · exact hsync.trans htwo
    · simp [hgrown, htwo] at hmax
  · obtain hkept | ⟨b, rfl, -⟩ := (exec_fills hi hexec).2
    · exact hkept
    · obtain ⟨-, rfl⟩ | ⟨-, rfl⟩ := execRxByte_cases hexec
      · rfl
      · exact h.receive_cap_of_two_markers htwo b

/-- From two toggles on, a run without RESET leaves `sync_count` and CAP (R126 (b)). -/
theorem State.Inv.execAll_keeps_cap_of_two_markers {is : List Instr} {s t : State} (h : s.Inv)
    (his : ∀ i ∈ is, i ≠ .reset) (hrun : execAll is s = .next t) (htwo : s.syncCount = 2#2) :
    t.syncCount = 2#2 ∧ t.cap = s.cap := by
  have hkept : t.Inv ∧ t.syncCount = 2#2 ∧ t.cap = s.cap :=
    execAll_induction_of_no_reset (P := fun u => u.Inv ∧ u.syncCount = 2#2 ∧ u.cap = s.cap)
      (fun i u v hi hexec ⟨hu, hsync, hcap⟩ => by
        obtain ⟨hsync', hcap'⟩ := hu.exec_keeps_cap_of_two_markers hi hexec hsync
        exact ⟨exec_keeps_inv hexec hu, hsync', hcap'.trans hcap⟩)
      his hrun ⟨h, htwo, rfl⟩
  exact hkept.2

/-! ### Refused events -/

theorem admitted_fatal {i : Instr} (hi : i ≠ .reset) : admitted i .fatal = false := by
  cases i with
  | reset => exact absurd rfl hi
  | _ => rfl

/-- An event its phase does not admit changes the mark alone (R198). -/
theorem exec_of_not_admitted {i : Instr} {s : State} (h : admitted i s.phase = false) :
    exec i s = .next { s with refused := true } := by
  cases i with
  | cmdReadConfig => exact runCommand_of_not_idle .cfg (by simpa [admitted] using h)
  | cmdReadLive => exact runCommand_of_not_idle .live (by simpa [admitted] using h)
  | cmdReadLiveSimple => exact runCommand_of_not_idle .lives (by simpa [admitted] using h)
  | rxByte b => exact if_pos (by simpa [admitted] using h)
  | rxErr => exact if_pos (by simpa [admitted] using h)
  | waitDone => exact if_neg (by simpa [admitted] using h)
  | reset => simp [admitted] at h

/-! ### Received bytes that DECODE never reads -/

/-- Two byte spaces that agree on the bytes below index `n`, and on whether there are that many. -/
structure AgreeBelow (n : Nat) (a b : ByteSpace) : Prop where
  len_lt_iff : ∀ m ≤ n, (b.len < m ↔ a.len < m)
  memRead_eq : ∀ i k, i + k ≤ n → memRead b i k = memRead a i k

theorem memRead_ofBytes_take (bs : List Byte) {n i k : Nat} (h : i + k ≤ n) :
    memRead (.ofBytes (bs.take n)) i k = memRead (.ofBytes bs) i k := by
  have hlen : i + k ≤ (bs.take n).length ↔ i + k ≤ bs.length := by
    rw [List.length_take]
    omega
  have hbytes : ((bs.take n).drop i).take k = (bs.drop i).take k := by
    rw [List.drop_take, List.take_take, Nat.min_eq_left (by omega)]
  simp only [memRead_ofBytes, hlen, hbytes]

theorem agreeBelow_of_take_eq {n : Nat} {bs bs' : List Byte} (h : bs.take n = bs'.take n) :
    AgreeBelow n (.ofBytes bs) (.ofBytes bs') where
  len_lt_iff m hm := by
    have hlen : min n bs.length = min n bs'.length := by rw [← List.length_take, h, List.length_take]
    simp only [ByteSpace.ofBytes_len]
    omega
  memRead_eq i k hik := by rw [← memRead_ofBytes_take bs hik, h, memRead_ofBytes_take bs' hik]

section
variable {n : Nat} {a b : ByteSpace} (h : AgreeBelow n a b)
include h

theorem AgreeBelow.unpack {F : Type} (order : RecOrder) {layout : List (LayoutRow F)}
    (hrows : ∀ row ∈ layout, recOffset + row.offset + row.type.size ≤ n) :
    unpack order b recOffset layout = unpack order a recOffset layout := by
  induction layout with
  | nil => rfl
  | cons row rows ih =>
    obtain ⟨hrow, hrows⟩ := List.forall_mem_cons.mp hrows
    simp only [Machine.unpack, ih hrows, h.memRead_eq _ _ hrow]

/-- UNPACK of a contiguous layout reads up to the layout's size and no further (R9 (c), R150). -/
theorem AgreeBelow.unpack_contiguous {F : Type} (order : RecOrder) {layout : List (LayoutRow F)}
    (hlayout : contiguousFrom 0 layout = true) (hroom : recOffset + layoutSize layout ≤ n) :
    Machine.unpack order b recOffset layout = Machine.unpack order a recOffset layout :=
  h.unpack order fun row hrow => by
    have hend := (contiguousFrom_bound layout 0 hlayout row hrow).2
    omega

theorem AgreeBelow.markersPresent (p : Params) (hn : 2 ≤ n) : markersPresent p b = markersPresent p a := by
  simp only [Machine.markersPresent, h.len_lt_iff 2 hn, h.memRead_eq 0 2 hn]

theorem AgreeBelow.liveVersion (p : Params) (hn : recOffset + 2 ≤ n) : liveVersion p b = liveVersion p a := by
  simp only [Machine.liveVersion, h.memRead_eq recOffset 2 hn]

theorem AgreeBelow.trailerMismatches (p : Params) (hn : trailerOffset + 2 ≤ n) :
    trailerMismatches p b = trailerMismatches p a := by
  simp only [Machine.trailerMismatches, h.len_lt_iff _ hn, h.memRead_eq _ 2 hn]

end

section
variable {n : Nat} {s : State} {sp : ByteSpace} (h : AgreeBelow n s.rxs sp)
include h

/-- The CFG path reads no byte past the record (R144, R145). -/
theorem decodeConfig_withReceived_of_agreeBelow (hp : s.params.wf = true)
    (hconfig : recOffset + s.params.configSize ≤ n) :
    decodeConfig (s.withReceived sp) = (decodeConfig s).map (State.withReceived sp) := by
  have hunpack := h.unpack_contiguous s.params.recOrder (Params.wf_capacity hp).2 hconfig
  unfold decodeConfig
  simp only [State.withReceived_params, State.withReceived_rxs, State.takeError_withReceived,
    h.len_lt_iff _ hconfig, hunpack]
  split
  · rfl
  · cases unpack s.params.recOrder s.rxs recOffset s.params.configLayout <;> rfl

/-- The record and its trailer end two bytes past the trailer's offset (R146, R147). -/
theorem unpackLive_withReceived_of_agreeBelow (htrailer : trailerOffset + 2 ≤ n) (checkTrailer : Bool) :
    unpackLive checkTrailer (s.withReceived sp) = (unpackLive checkTrailer s).map (State.withReceived sp) := by
  have hlive : recOffset + layoutSize liveLayout ≤ n := le_of_add_le_left htrailer
  unfold unpackLive
  simp only [State.withReceived_params, State.withReceived_rxs, h.trailerMismatches _ htrailer,
    h.unpack_contiguous _ (layout := liveLayout) (by decide) hlive]
  cases unpack s.params.recOrder s.rxs recOffset liveLayout with
  | error f => rfl
  | ok r =>
    cases checkTrailer with
    | false => rfl
    | true => cases trailerMismatches s.params s.rxs <;> rfl

/-- The live path reads no byte past the trailer (R146 to R149). -/
theorem decodeLive_withReceived_of_agreeBelow (htrailer : trailerOffset + 2 ≤ n) (checkTrailer : Bool) :
    decodeLive checkTrailer (s.withReceived sp) = (decodeLive checkTrailer s).map (State.withReceived sp) := by
  have hlive : recOffset + liveSize ≤ n := le_of_add_le_left htrailer
  have hversion : recOffset + 2 ≤ n := le_trans (by decide) hlive
  unfold decodeLive
  simp only [State.withReceived_params, State.withReceived_rxs, State.takeError_withReceived,
    h.len_lt_iff _ hversion, h.len_lt_iff _ hlive, h.liveVersion _ hversion,
    unpackLive_withReceived_of_agreeBelow h htrailer]
  split
  · rfl
  · cases liveVersion s.params s.rxs with
    | error f => rfl
    | ok v =>
      dsimp only
      split
      · rfl
      · split <;> rfl

/-- DECODE reads no byte past the record of its command and the live trailer (R141). -/
theorem decodeRecord_withReceived_of_agreeBelow (hp : s.params.wf = true)
    (hconfig : recOffset + s.params.configSize ≤ n) (htrailer : trailerOffset + 2 ≤ n) :
    decodeRecord (s.withReceived sp) = (decodeRecord s).map (State.withReceived sp) := by
  have hmarkers : 2 ≤ n := le_trans (by decide) htrailer
  have hpath (c : Option Cmd) :
      decodePath c (s.clearRecords.withReceived sp) = (decodePath c s.clearRecords).map (State.withReceived sp) := by
    match c with
    | none => rfl
    | some .cfg => exact decodeConfig_withReceived_of_agreeBelow (s := s.clearRecords) h hp hconfig
    | some .live => exact decodeLive_withReceived_of_agreeBelow (s := s.clearRecords) h htrailer true
    | some .lives => exact decodeLive_withReceived_of_agreeBelow (s := s.clearRecords) h htrailer false
  unfold decodeRecord
  simp only [State.withReceived_params, State.withReceived_rxs, State.withReceived_responseObserved,
    State.withReceived_cmdLatched, State.clearRecords_withReceived, State.takeError_withReceived,
    h.markersPresent _ hmarkers, hpath]
  cases s.responseObserved with
  | false => rfl
  | true =>
    match markersPresent s.params s.rxs with
    | .error f => rfl
    | .ok false => rfl
    | .ok true => rfl

end

/-- WAIT_DONE reads no received byte past the record of its command and the live trailer: with other bytes behind them
in RXB it gives the same state but for RXB and its snapshot (R123, R140). -/
theorem finishWait_of_agreeBelow {n : Nat} {s : State} {sp : ByteSpace} (h : AgreeBelow n s.rxb sp)
    (hp : s.params.wf = true) (hconfig : recOffset + s.params.configSize ≤ n) (htrailer : trailerOffset + 2 ≤ n) :
    finishWait { s with rxb := sp } = (finishWait s).map (State.withReceived sp) := by
  have hrecord := decodeRecord_withReceived_of_agreeBelow (s := s.snapshot) h hp hconfig htrailer
  unfold finishWait
  rw [show State.snapshot { s with rxb := sp } = s.snapshot.withReceived sp from rfl, hrecord]
  cases decodeRecord s.snapshot with
  | error f => rfl
  | ok u =>
    simp only [Except.map, deriveAnalog_withReceived]
    cases deriveAnalog u <;> rfl

theorem execWaitDone_of_finishWait {s t : State} (hwaiting : s.phase = .waiting) (h : finishWait s = .ok t) :
    exec .waitDone s = .next t := by
  simp only [exec, execWaitDone, if_pos hwaiting, h]

end Sys2Proof.Machine

namespace Sys2Proof.Proofs

open Sys2Proof Sys2Proof.Machine

/-- Settles O14: the five steps at once, with the capture append behind the toggle. -/
theorem rxByteToggleFirst : Obligations.RxByteToggleFirst := by
  refine fun s b horder => ⟨encode_rxByte_eq_or b, fun hphase => ?_, fun hfatal => if_pos hfatal⟩
  rw [execRxByte_of_not_fatal b hphase, receive_eq, State.capturesNow_of_toggleFirst b horder]
  rfl

/-- Settles O15: the five steps at once, with the capture append before the toggle. -/
theorem rxByteAppendFirst : Obligations.RxByteAppendFirst := by
  intro s b horder hphase
  dsimp only
  rw [execRxByte_of_not_fatal b hphase, receive_eq, State.capturesNow_of_appendFirst b horder]
  rfl

/-- Settles O17: RX_BYTE alone writes the detector, and it toggles only below two toggles. -/
theorem detectorTogglesAtMostTwice : Obligations.DetectorTogglesAtMostTwice :=
  fun _ _ _ hi hexec => exec_detectorFrom hi hexec

/-- Settles O18: after two toggles no event but RESET writes CAP, and the invariant ties `capturing` to `sync_count`. -/
theorem captureIsOneRun : Obligations.CaptureIsOneRun := by
  intro is s t h his hrun
  have hinv : t.Inv := execAll_induction (fun _ _ _ => exec_keeps_inv) hrun h
  refine ⟨fun htwo => ?_, fun _ hone => hinv.capturingIff.mpr hone⟩
  obtain ⟨hsync, hcap⟩ := h.execAll_keeps_cap_of_two_markers his hrun htwo
  exact ⟨hsync, hinv.capturing_eq_false hsync, hcap⟩

/-- Settles O40: with the default layout the ConfigRecord ends at receive index 80 and the live trailer before it. -/
theorem bytesPastEightyOneDoNotMatter : Obligations.BytesPastEightyOneDoNotMatter := by
  rintro s s' bs bs' h hwaiting hlayout hrxb rfl htake
  have hconfig : recOffset + s.params.configSize ≤ 81 := by
    rw [Params.configSize, hlayout]
    decide
  have hagree : AgreeBelow 81 s.rxb (.ofBytes bs') := hrxb ▸ agreeBelow_of_take_eq htake
  obtain ⟨t, ht⟩ := h.finishWait_completes hwaiting
  have ht' : finishWait { s with rxb := .ofBytes bs' } = .ok (t.withReceived (.ofBytes bs')) := by
    rw [finishWait_of_agreeBelow hagree h.paramsWf hconfig (by decide), ht]
    rfl
  exact ⟨t, t.withReceived (.ofBytes bs'), execWaitDone_of_finishWait hwaiting ht,
    execWaitDone_of_finishWait hwaiting ht', rfl, rfl, rfl, rfl, rfl, rfl⟩

/-- Settles O19: the read error has its effect outside FATAL, which admits RESET alone. -/
theorem rxErrIsFatal : Obligations.RxErrIsFatal := by
  refine ⟨rfl, fun s => ⟨fun hphase => if_neg hphase, fun hfatal i hi => ?_⟩⟩
  exact exec_of_not_admitted (by rw [hfatal, admitted_fatal hi])

end Sys2Proof.Proofs

/-! PROOFS. The record decoder family (42_record_decoder.md): UNPACK against PACK, what WAIT_DONE leaves in the result
registers, and the answer to each kind of response. -/

namespace Sys2Proof.Machine

/-! ### UNPACK inverts PACK -/

theorem assembleField_bytesOfU16 (order : RecOrder) (v : U16) :
    assembleField order .u16 (bytesOfU16 order v) = some (.u16 v) := by
  have hword : v.extractLsb' 8 8 ++ v.extractLsb' 0 8 = v := BitVec.extractLsb'_append_extractLsb'
  cases order <;> exact congrArg (some ∘ FieldValue.u16) hword

/-- The four bytes of a word, highest first, are the word. -/
theorem append_bytes_u32 (v : U32) :
    v.extractLsb' 24 8 ++ v.extractLsb' 16 8 ++ v.extractLsb' 8 8 ++ v.extractLsb' 0 8 = v := by
  rw [BitVec.extractLsb'_append_extractLsb'_eq_extractLsb' (by rfl),
    BitVec.extractLsb'_append_extractLsb'_eq_extractLsb' (by rfl)]
  exact BitVec.extractLsb'_append_extractLsb'

theorem assembleField_u32_bytesOfU32 (order : RecOrder) (v : U32) :
    assembleField order .u32 (bytesOfU32 order v) = some (.u32 v) := by
  cases order <;> exact congrArg (some ∘ FieldValue.u32) (append_bytes_u32 v)

theorem assembleField_f32bits_bytesOfU32 (order : RecOrder) (v : U32) :
    assembleField order .f32bits (bytesOfU32 order v) = some (.f32bits v) := by
  cases order <;> exact congrArg (some ∘ FieldValue.f32bits) (append_bytes_u32 v)

theorem bytesOfU16_length (order : RecOrder) (v : U16) : (bytesOfU16 order v).length = 2 := by
  cases order <;> rfl

theorem bytesOfU32_length (order : RecOrder) (v : U32) : (bytesOfU32 order v).length = 4 := by
  cases order <;> rfl

/-- A packed value of a type has as many bytes as the type, and they assemble to the value (R80 to R82, R151). -/
theorem packField_of_hasType (order : RecOrder) {v : FieldValue} {ty : FieldType} (h : v.hasType ty = true) :
    (packField order v).length = ty.size ∧ assembleField order ty (packField order v) = some v := by
  unfold FieldValue.hasType at h
  split at h
  case h_1 v => exact ⟨bytesOfU16_length order v, assembleField_bytesOfU16 order v⟩
  case h_2 v => exact ⟨bytesOfU32_length order v, assembleField_u32_bytesOfU32 order v⟩
  case h_3 v => exact ⟨bytesOfU32_length order v, assembleField_f32bits_bytesOfU32 order v⟩
  case h_4 bs =>
    have hlen : bs.length = 8 := beq_iff_eq.mp h
    exact ⟨hlen, if_pos hlen⟩
  case h_5 bs =>
    have hlen : bs.length = 10 := beq_iff_eq.mp h
    exact ⟨hlen, if_pos hlen⟩
  case h_6 => cases h

/-- A record of a layout's shape has one pair per row: the row's field, a value of its type, and the rest. -/
theorem hasShape_cons {F : Type} [DecidableEq F] {row : LayoutRow F} {rows : List (LayoutRow F)} {r : Record F}
    (h : hasShape (row :: rows) r = true) :
    ∃ v rest, r = (row.field, v) :: rest ∧ v.hasType row.type = true ∧ hasShape rows rest = true := by
  match r, h with
  | (f, v) :: rest, h =>
    simp only [hasShape, Bool.and_eq_true, decide_eq_true_eq] at h
    obtain ⟨⟨rfl, hv⟩, hrest⟩ := h
    exact ⟨v, rest, rfl, hv, hrest⟩

theorem eq_nil_of_hasShape_nil {F : Type} [DecidableEq F] {r : Record F} (h : hasShape [] r = true) : r = [] := by
  cases r with
  | nil => rfl
  | cons fv rest => simp [hasShape] at h

/-- A packed record is as long as its layout (R84, R151). -/
theorem pack_length {F : Type} [DecidableEq F] (order : RecOrder) {layout : List (LayoutRow F)} {r : Record F}
    (h : hasShape layout r = true) : (pack order r).length = layoutSize layout := by
  induction layout generalizing r with
  | nil => rw [eq_nil_of_hasShape_nil h]; rfl
  | cons row rows ih =>
    obtain ⟨v, rest, rfl, hv, hrest⟩ := hasShape_cons h
    rw [pack, List.length_append, (packField_of_hasType order hv).1, ih hrest, layoutSize]

/-- The bytes that stand between a head and a tail are read back whole. -/
theorem memRead_middle (head mid tail : List Byte) :
    memRead (.ofBytes (head ++ mid ++ tail)) head.length mid.length = .ok mid := by
  rw [memRead_ofBytes, if_pos (by simp), List.append_assoc, List.drop_left, List.take_left]

/-- UNPACK at `base` of a record packed at `base + o`, by a layout that is contiguous from offset `o` (R150, R151). The
head grows by one packed field with each row. -/
theorem unpack_pack {F : Type} [DecidableEq F] (order : RecOrder) (base : Nat) {layout : List (LayoutRow F)}
    {r : Record F} {o : Nat} {head : List Byte} (tail : List Byte) (hhead : head.length = base + o)
    (hlayout : contiguousFrom o layout = true) (hshape : hasShape layout r = true) :
    unpack order (.ofBytes (head ++ pack order r ++ tail)) base layout = .ok r := by
  induction layout generalizing r o head with
  | nil => rw [eq_nil_of_hasShape_nil hshape]; rfl
  | cons row rows ih =>
    obtain ⟨v, rest, rfl, hv, hrest⟩ := hasShape_cons hshape
    simp only [contiguousFrom, Bool.and_eq_true, beq_iff_eq] at hlayout
    obtain ⟨hoffset, hrows⟩ := hlayout
    obtain ⟨hsize, hassemble⟩ := packField_of_hasType order hv
    have hread := memRead_middle head (packField order v) (pack order rest ++ tail)
    have hrec := ih (r := rest) (head := head ++ packField order v)
      (by rw [List.length_append, hhead, hsize, Nat.add_assoc]) hrows hrest
    rw [hhead, hsize, ← hoffset] at hread
    simp only [pack, List.append_assoc] at hread hrec ⊢
    simp only [unpack, hread, hassemble, hrec]

/-! ### The fields of an unpacked record -/

/-- A record with one pair per row, none of whose fields stands twice, is read by name row by row (R43, R150). -/
theorem fieldOf_of_forall₂ {F : Type} [DecidableEq F] {P : LayoutRow F → FieldValue → Prop}
    {layout : List (LayoutRow F)} {r : Record F}
    (h : List.Forall₂ (fun row fv => fv.1 = row.field ∧ P row fv.2) layout r)
    (hnodup : (layout.map LayoutRow.field).Nodup) :
    r.map Prod.fst = layout.map LayoutRow.field ∧ ∀ row ∈ layout, ∃ v, fieldOf row.field r = some v ∧ P row v := by
  induction h with
  | nil => simp
  | @cons row fv rows rest hpair _ ih =>
    obtain ⟨hfield, hvalue⟩ := hpair
    obtain ⟨hnotin, hnodup⟩ := List.nodup_cons.mp hnodup
    obtain ⟨hfields, hrows⟩ := ih hnodup
    refine ⟨by rw [List.map_cons, List.map_cons, hfield, hfields], fun q hq => ?_⟩
    rcases List.mem_cons.mp hq with rfl | hq
    · exact ⟨fv.2, if_pos hfield, hvalue⟩
    · obtain ⟨w, hread, hw⟩ := hrows q hq
      have hne : fv.1 ≠ q.field := fun heq => hnotin (hfield ▸ heq ▸ List.mem_map_of_mem hq)
      exact ⟨w, (if_neg hne).trans hread, hw⟩

/-- What UNPACK answers: the layout's fields in order, each assembled from the bytes at its offset (R150). -/
theorem unpack_fields {F : Type} [DecidableEq F] {order : RecOrder} {bs : List Byte} {base : Nat}
    {layout : List (LayoutRow F)} {r : Record F} (h : unpack order (.ofBytes bs) base layout = .ok r)
    (hnodup : (layout.map LayoutRow.field).Nodup) :
    r.map Prod.fst = layout.map LayoutRow.field ∧
      ∀ row ∈ layout, ∃ v, fieldOf row.field r = some v ∧
        assembleField order row.type ((bs.drop (base + row.offset)).take row.type.size) = some v :=
  fieldOf_of_forall₂ (unpack_values h) hnodup

/-! ### Version 4 -/

theorem u16of_le_eq_four_iff (b0 b1 : Byte) : u16of .le b0 b1 = 4#16 ↔ b0 = 0x04#8 ∧ b1 = 0x00#8 := by
  have hvalue := u16of_le_toNat b0 b1
  constructor
  · intro h
    rw [h] at hvalue
    constructor <;> bv_omega
  · rintro ⟨rfl, rfl⟩
    rfl

theorem u16of_be_eq_four_iff (b0 b1 : Byte) : u16of .be b0 b1 = 4#16 ↔ b0 = 0x00#8 ∧ b1 = 0x04#8 :=
  (u16of_le_eq_four_iff b1 b0).trans And.comm

/-! ### What WAIT_DONE leaves in the result registers -/

/-- WAIT_DONE in WAITING completes with the record results of DECODE, which DERIVE_ANALOG does not touch (R140). -/
theorem execWaitDone_of_decodeRecord {s u : State} (hwaiting : s.phase = .waiting) (hcap : s.cap.filled = true)
    (hu : decodeRecord s.snapshot = .ok u) :
    ∃ t, exec .waitDone s = .next t ∧ t.phase = .done ∧ t.resCode = u.resCode ∧ t.cfg = u.cfg ∧ t.live = u.live ∧
      t.trailerMismatch = u.trailerMismatch := by
  have hcaps : u.caps.filled = true := by
    obtain ⟨_, _, _, _, rfl⟩ := decodeRecord_frame hu
    exact hcap
  obtain ⟨v, hv⟩ := deriveAnalog_completes hcaps
  have hfinish : finishWait s = .ok { v with phase := .done } := by simp only [finishWait, hu, hv]
  refine ⟨_, execWaitDone_of_finishWait hwaiting hfinish, rfl, ?_⟩
  obtain ⟨_, _, rfl⟩ := deriveAnalog_frame hv
  exact ⟨rfl, rfl, rfl, rfl⟩

/-- With no response observed DECODE reads no byte (R142). -/
theorem decodeRecord_of_not_observed {s : State} (h : s.responseObserved = false) :
    decodeRecord s = .ok (s.clearRecords.takeError .noResponse) :=
  if_pos h

/-- With a response observed the markers decide between the path of the command and MALFORMED_FRAME (R141, R143). -/
theorem decodeRecord_of_observed {s : State} {bs : List Byte} (hobserved : s.responseObserved = true)
    (hrxs : s.rxs = .ofBytes bs) :
    decodeRecord s =
      if bs[0]? = some dle ∧ bs[1]? = some s.params.sdfByte then decodePath s.cmdLatched s.clearRecords
      else .ok (s.clearRecords.takeError .malformedFrame) := by
  unfold decodeRecord
  rw [if_neg (by simp [hobserved]), hrxs, markersPresent_ofBytes]
  by_cases hmarkers : bs[0]? = some dle ∧ bs[1]? = some s.params.sdfByte
  · rw [if_pos hmarkers, decide_eq_true hmarkers]
  · rw [if_neg hmarkers, decide_eq_false hmarkers]

/-- The live commands differ in the trailer check alone (R147, R149). -/
theorem decodePath_of_live {c : Option Cmd} (hlatched : c ≠ none) (hlive : c ≠ some .cfg) (s : State) :
    decodePath c s = decodeLive (decide (c = some .live)) s := by
  match c with
  | none => exact absurd rfl hlatched
  | some .cfg => exact absurd rfl hlive
  | some .live => rfl
  | some .lives => rfl

/-- The trailer flag is set when the trailer is checked and is not there (R147, R149). -/
theorem trailerFlag_iff (checked present : Prop) [Decidable checked] [Decidable present] :
    (if decide checked = true then !decide present else false) = true ↔ checked ∧ ¬ present := by
  simp

section
variable {s : State} {bs : List Byte} (h : s.Inv) (hrxb : s.rxb = .ofBytes bs)
include h hrxb

/-- A response has been observed when a byte was received (R142). -/
theorem State.Inv.observed_of_bytes (hbytes : bs ≠ []) : s.responseObserved = true :=
  h.observedIff.mpr (by simpa [hrxb] using hbytes)

/-- Bytes without the markers, or too few to hold them, are a malformed frame (R143). -/
theorem State.Inv.decodeRecord_of_bad_markers (hbytes : bs ≠ [])
    (hbad : ¬ (bs[0]? = some dle ∧ bs[1]? = some s.params.sdfByte)) :
    decodeRecord s.snapshot = .ok (s.snapshot.clearRecords.takeError .malformedFrame) :=
  (decodeRecord_of_observed (s := s.snapshot) (h.observed_of_bytes hrxb hbytes) hrxb).trans (if_neg hbad)

variable (hdle : bs[0]? = some dle) (hsdf : bs[1]? = some s.params.sdfByte)
include hdle hsdf

/-- Behind good markers DECODE takes the path of the latched command (R141). -/
theorem State.Inv.decodeRecord_of_markers :
    decodeRecord s.snapshot = decodePath s.cmdLatched s.snapshot.clearRecords := by
  have hbytes : bs ≠ [] := by rintro rfl; simp at hdle
  have hobserved := h.observed_of_bytes hrxb hbytes
  exact (decodeRecord_of_observed (s := s.snapshot) hobserved hrxb).trans (if_pos ⟨hdle, hsdf⟩)

theorem State.Inv.decodeRecord_of_config (hcmd : s.cmdLatched = some .cfg) :
    decodeRecord s.snapshot = decodeConfig s.snapshot.clearRecords := by
  rw [h.decodeRecord_of_markers hrxb hdle hsdf, hcmd]
  rfl

theorem State.Inv.decodeRecord_of_live (hwaiting : s.phase = .waiting) (hcmd : s.cmdLatched ≠ some .cfg) :
    decodeRecord s.snapshot = decodeLive (decide (s.cmdLatched = some .live)) s.snapshot.clearRecords :=
  (h.decodeRecord_of_markers hrxb hdle hsdf).trans (decodePath_of_live (h.busyLatch (.inl hwaiting)) hcmd _)

end

end Sys2Proof.Machine

namespace Sys2Proof.Proofs

open Sys2Proof Sys2Proof.Machine

/-- Settles O37: each row reads back its packed field, behind the fields before it. -/
theorem unpackInvertsPack : Obligations.UnpackInvertsPack :=
  ⟨fun order _ _ _ _ _ tail hlayout hshape => unpack_pack order 3 (o := 0) tail rfl hlayout hshape,
    fun order _ _ _ _ tail hshape => unpack_pack order 3 (o := 0) tail rfl (by decide) hshape⟩

/-- Settles O38: the response is long enough, and UNPACK of the packed record gives it back. -/
theorem configResponseRoundTrip : Obligations.ConfigResponseRoundTrip := by
  intro s r x tail h hwaiting hcmd hshape hrxb
  have hdecode := h.decodeRecord_of_config hrxb rfl rfl hcmd
  obtain ⟨-, hlayout⟩ := Params.wf_capacity h.paramsWf
  have hunpack : unpack s.params.recOrder _ 3 s.params.configLayout = .ok r :=
    unpack_pack s.params.recOrder 3 tail (head := [0x10#8, s.params.sdfByte, x]) rfl hlayout hshape
  obtain ⟨hshort, -⟩ | ⟨-, r', hr', -, heq⟩ := decodeConfig_cases s.snapshot.clearRecords _ hrxb h.paramsWf
  · exact absurd hshort (by simp [pack_length _ hshape]; omega)
  · obtain rfl : r' = r := Except.ok.inj (hr'.symm.trans hunpack)
    obtain ⟨t, ht, -, hres, hcfg, -, -⟩ := execWaitDone_of_decodeRecord hwaiting h.capFilled (hdecode.trans heq)
    exact ⟨t, ht, hres, hcfg⟩

/-- Settles O28: the invariant rules out every fault of WAIT_DONE, whose frame is the snapshot, the results and the
phase. -/
theorem waitDoneCompletes : Obligations.WaitDoneCompletes := by
  intro s h hwaiting
  obtain ⟨t, ht⟩ := h.exec_completes .waitDone
  obtain ⟨_, _, _, _, _, _, rfl⟩ := execWaitDone_frame ht hwaiting
  exact ⟨_, ht, by simp⟩

/-- Settles O29: DECODE looks at `response_observed` first, which the invariant ties to `rx_len`. -/
theorem noByteGivesNoResponse : Obligations.NoByteGivesNoResponse := by
  refine ⟨fun s sp h hwaiting hobserved => ?_, fun s h => ?_⟩
  · obtain ⟨t, ht, hdone, hres, hcfg, hlive, htrailer⟩ := execWaitDone_of_decodeRecord (s := { s with rxb := sp })
      hwaiting h.capFilled (decodeRecord_of_not_observed hobserved)
    exact ⟨t, ht, hres, hcfg, hlive, htrailer, hdone⟩
  · rw [← Bool.not_eq_true, h.observedIff, not_not]

/-- Settles O30: fewer than two bytes lack a marker too. -/
theorem badMarkersGiveMalformedFrame : Obligations.BadMarkersGiveMalformedFrame := by
  intro s bs h hwaiting hrxb hbytes hbad
  have hmarkers : ¬ (bs[0]? = some dle ∧ bs[1]? = some s.params.sdfByte) := by
    rintro ⟨hdle, hsdf⟩
    obtain hshort | hno | hno := hbad
    · obtain ⟨hlt, -⟩ := List.getElem?_eq_some_iff.mp hsdf
      omega
    · exact hno hdle
    · exact hno hsdf
  obtain ⟨t, ht, -, hresults⟩ := execWaitDone_of_decodeRecord hwaiting h.capFilled
    (h.decodeRecord_of_bad_markers hrxb hbytes hmarkers)
  exact ⟨t, ht, hresults⟩

/-- Settles O31: of the answers of either path only MALFORMED_FRAME is left for the lengths given. -/
theorem shortRecordGivesMalformedFrame : Obligations.ShortRecordGivesMalformedFrame := by
  intro s bs h hwaiting hrxb hdle hsdf hshort
  have hdecode : decodeRecord s.snapshot = .ok (s.snapshot.clearRecords.takeError .malformedFrame) := by
    obtain ⟨hcmd, hlen⟩ | ⟨hcmd, hlen⟩ := hshort
    · rw [h.decodeRecord_of_config hrxb hdle hsdf hcmd]
      obtain ⟨-, heq⟩ | ⟨hlong, -⟩ := decodeConfig_cases s.snapshot.clearRecords bs hrxb h.paramsWf
      · exact heq
      · exact absurd hlen (Nat.not_lt.mpr hlong)
    · rw [h.decodeRecord_of_live hrxb hdle hsdf hwaiting hcmd]
      obtain ⟨-, heq⟩ | ⟨hfive, hversion, -⟩ | ⟨-, -, -, heq⟩ | ⟨hlong, -⟩ :=
        decodeLive_cases (decide (s.cmdLatched = some .live)) s.snapshot.clearRecords bs hrxb
      · exact heq
      · obtain hlt | ⟨-, hfour⟩ := hlen
        · omega
        · exact absurd hfour hversion
      · exact heq
      · omega
  obtain ⟨t, ht, -, hresults⟩ := execWaitDone_of_decodeRecord hwaiting h.capFilled hdecode
  exact ⟨t, ht, hresults⟩

/-- Settles O32: the version is checked before the record's length. -/
theorem otherVersionIsUnsupported : Obligations.OtherVersionIsUnsupported := by
  refine ⟨fun b0 b1 => ⟨u16of_le_eq_four_iff b0 b1, u16of_be_eq_four_iff b0 b1⟩, ?_⟩
  intro s bs h hwaiting hrxb hdle hsdf hfive hcmd hversion
  have hdecode : decodeRecord s.snapshot = .ok (s.snapshot.clearRecords.takeError .unsupportedVersion) := by
    rw [h.decodeRecord_of_live hrxb hdle hsdf hwaiting hcmd]
    obtain ⟨hshort, -⟩ | ⟨-, -, heq⟩ | ⟨-, -, hfour, -⟩ | ⟨-, hfour, -⟩ :=
      decodeLive_cases (decide (s.cmdLatched = some .live)) s.snapshot.clearRecords bs hrxb
    · omega
    · exact heq
    · exact absurd hfour hversion
    · exact absurd hfour hversion
  obtain ⟨t, ht, -, hresults⟩ := execWaitDone_of_decodeRecord hwaiting h.capFilled hdecode
  exact ⟨t, ht, hresults⟩

/-- Settles O33: the path of read-config-data with enough bytes ends in UNPACK of the layout. -/
theorem configRecordIsUnpacked : Obligations.ConfigRecordIsUnpacked := by
  intro s bs h hwaiting hcmd hrxb hdle hsdf hlen
  have hdecode := h.decodeRecord_of_config hrxb hdle hsdf hcmd
  obtain ⟨-, -, -, horder⟩ := (Params.wf_iff s.params).mp h.paramsWf
  obtain ⟨hshort, -⟩ | ⟨-, r, hr, -, heq⟩ := decodeConfig_cases s.snapshot.clearRecords bs hrxb h.paramsWf
  · exact absurd hshort (Nat.not_lt.mpr hlen)
  · obtain ⟨t, ht, -, hres, hcfg, hlive, htrailer⟩ :=
      execWaitDone_of_decodeRecord hwaiting h.capFilled (hdecode.trans heq)
    exact ⟨t, r, ht, hres, hcfg, hlive, htrailer, unpack_fields hr (keepsFieldOrder_nodup horder)⟩

/-- Settles O34: the live path with enough bytes of version 4 ends in UNPACK of R86 and the trailer check of the
command. -/
theorem liveRecordIsUnpacked : Obligations.LiveRecordIsUnpacked := by
  intro s bs h hwaiting hcmd hrxb hdle hsdf hlen hfour
  have hdecode := h.decodeRecord_of_live hrxb hdle hsdf hwaiting hcmd
  obtain ⟨hshort, -⟩ | ⟨-, hversion, -⟩ | ⟨-, hshort, -⟩ | ⟨-, -, r, hr, -, heq⟩ :=
    decodeLive_cases (decide (s.cmdLatched = some .live)) s.snapshot.clearRecords bs hrxb
  · omega
  · exact absurd hfour hversion
  · omega
  · obtain ⟨t, ht, -, hres, hcfg, hlive, htrailer⟩ :=
      execWaitDone_of_decodeRecord hwaiting h.capFilled (hdecode.trans heq)
    obtain ⟨hfields, hrows⟩ := unpack_fields hr (by decide)
    refine ⟨t, r, ht, hres, hlive, hcfg, hfields, hrows, ?_⟩
    rw [htrailer]
    exact trailerFlag_iff _ _

end Sys2Proof.Proofs

/-! PROOFS. The analog datapath family (43_analog_datapath.md): when the reading is there and what it depends on, the
exact light and LEL values, and the ranges of the temperature and the humidity. -/

namespace Sys2Proof.Machine

/-! ### What WAIT_DONE leaves in `an_code` and `analog` -/

/-- The integer words of the eight capture bytes R62 names, of a list that holds the captured bytes. -/
def capturedWords (cs : List Byte) : AnalogWords :=
  analogWordsOf (cs.getD 2 0#8) (cs.getD 3 0#8) (cs.getD 8 0#8) (cs.getD 9 0#8) (cs.getD 10 0#8) (cs.getD 11 0#8)
    (cs.getD 32 0#8) (cs.getD 33 0#8)

/-- `an_code` and `analog` after DERIVE_ANALOG, from the marker count and the captured bytes alone (R170, R173). -/
def analogResult (sync : BitVec 2) (cs : List Byte) : AnCode × Option Analog :=
  if sync = 0#2 then (.noCapture, none)
  else if cs.length < 34 then (.insufficientCaptureData, none)
  else (.analogReading, some (scaleWords (capturedWords cs)))

theorem analogResult_of_no_marker (cs : List Byte) : analogResult 0#2 cs = (.noCapture, none) := rfl

theorem analogResult_of_short {sync : BitVec 2} {cs : List Byte} (hsync : sync ≠ 0#2) (hlen : cs.length < 34) :
    analogResult sync cs = (.insufficientCaptureData, none) := by
  rw [analogResult, if_neg hsync, if_pos hlen]

theorem analogResult_of_captured {sync : BitVec 2} {cs : List Byte} (hsync : sync ≠ 0#2) (hlen : 34 ≤ cs.length) :
    analogResult sync cs = (.analogReading, some (scaleWords (capturedWords cs))) := by
  rw [analogResult, if_neg hsync, if_neg (Nat.not_lt.mpr hlen)]

/-- DERIVE_ANALOG on a filled capture snapshot leaves the analog result of its bytes. -/
theorem deriveAnalog_result {s t : State} {cs : List Byte} (hcaps : s.caps = .ofBytes cs)
    (h : deriveAnalog s = .ok t) : (t.anCode, t.analog) = analogResult s.syncCountS cs := by
  obtain rfl := Except.ok.inj ((deriveAnalog_ofBytes s cs hcaps).symm.trans h)
  unfold analogResult capturedWords
  split
  · rfl
  · split <;> rfl

/-- WAIT_DONE in WAITING completes with the analog result of the bytes in CAP (R140, R177). -/
theorem State.Inv.execWaitDone_analog {s : State} {cs : List Byte} (h : s.Inv) (hwaiting : s.phase = .waiting)
    (hcap : s.cap = .ofBytes cs) :
    ∃ t, exec .waitDone s = .next t ∧ (t.anCode, t.analog) = analogResult s.syncCount cs := by
  obtain ⟨t, ht⟩ := h.exec_completes .waitDone
  obtain ⟨hbusy, -⟩ | ⟨-, u, hu, v, hv, rfl⟩ := execWaitDone_cases ht
  · exact absurd hwaiting hbusy
  · obtain ⟨_, _, _, _, rfl⟩ := decodeRecord_frame hu
    exact ⟨_, ht, deriveAnalog_result (cs := cs) hcap hv⟩

/-- With a marker seen and enough captured bytes WAIT_DONE completes with the reading of their words. -/
theorem State.Inv.execWaitDone_reading {s : State} {cs : List Byte} (h : s.Inv) (hwaiting : s.phase = .waiting)
    (hsync : s.syncCount ≠ 0#2) (hcap : s.cap = .ofBytes cs) (hlen : 34 ≤ cs.length) :
    ∃ t, exec .waitDone s = .next t ∧ t.anCode = .analogReading ∧ t.analog = some (scaleWords (capturedWords cs)) := by
  obtain ⟨t, ht, hresult⟩ := h.execWaitDone_analog hwaiting hcap
  rw [analogResult_of_captured hsync hlen] at hresult
  exact ⟨t, ht, congrArg Prod.fst hresult, congrArg Prod.snd hresult⟩

/-- Two captures with equal low seven bits in the eight bytes have the same words (R170, R171). -/
theorem capturedWords_congr {cs cs' : List Byte}
    (h : ∀ k ∈ [2, 3, 8, 9, 10, 11, 32, 33], low7 (cs.getD k 0#8) = low7 (cs'.getD k 0#8)) :
    capturedWords cs = capturedWords cs' := by
  simp only [List.forall_mem_cons] at h
  obtain ⟨h2, h3, h8, h9, h10, h11, h32, h33, -⟩ := h
  simp only [capturedWords, analogWordsOf, pair7, sum7, h2, h3, h8, h9, h10, h11, h32, h33]

/-- The words of the all-zero capture behind the marker's own 0x0C (R170). -/
theorem capturedWords_zero (n : Nat) :
    capturedWords (0x0C#8 :: List.replicate n 0x00#8) = ⟨0, 0, 0, 0⟩ := by
  have hzero (k : Nat) : (List.replicate n 0x00#8).getD k 0#8 = 0#8 := by
    rw [List.getD_eq_getElem?_getD, List.getElem?_replicate]
    split <;> rfl
  simp only [capturedWords, List.getD_cons_succ, hzero]
  rfl

/-! ### Representable values are exact -/

theorem pow2_mul_pow2 (m n : Nat) : pow2 m * pow2 n = pow2 (m + n) := (Nat.pow_add 2 m n).symm

theorem unitsPerOne_pos : 0 < unitsPerOne := pow2_pos 1074

/-- A significand below 2^53 times a power of two is the magnitude of some finite bits. The significand is shifted up
until its leading bit is bit 52. -/
theorem exists_bits_of_significand {k e : Nat} (hk : k < 2 ^ 53) (hlow : 52 ≤ e) (hhigh : e ≤ 2045) :
    ∃ m, m < infinityBits ∧ unitsOfBits m = k * pow2 e := by
  rw [pow2_eq]
  by_cases hzero : k = 0
  · exact ⟨0, by decide, by simp [hzero, unitsOfBits]⟩
  · obtain ⟨i, hi⟩ : ∃ i, i + Nat.log2 k = 52 := ⟨52 - Nat.log2 k, by have := (Nat.log2_lt hzero).2 hk; omega⟩
    have hlead : 2 ^ 52 ≤ k * 2 ^ i := by
      rw [← hi, Nat.pow_add, Nat.mul_comm]
      exact Nat.mul_le_mul_right _ (Nat.log2_self_le hzero)
    have hlast : k * 2 ^ i < 2 ^ 53 := by
      rw [show 53 = Nat.log2 k + 1 + i by omega, Nat.pow_add]
      exact Nat.mul_lt_mul_of_pos_right Nat.lt_log2_self (by positivity)
    have hshift : k * 2 ^ e = k * 2 ^ i * 2 ^ (e - i) := by
      rw [Nat.mul_assoc, ← Nat.pow_add, show i + (e - i) = e by omega]
    obtain ⟨f, hf⟩ : ∃ f, k * 2 ^ i = 2 ^ 52 + f := Nat.exists_eq_add_of_le hlead
    rw [hf] at hlast hshift
    have hdiv : ((e - i + 1) * 2 ^ 52 + f) / 2 ^ 52 = e - i + 1 := by omega
    have hmod : ((e - i + 1) * 2 ^ 52 + f) % 2 ^ 52 = f := by omega
    refine ⟨(e - i + 1) * 2 ^ 52 + f, by rw [infinityBits]; omega, ?_⟩
    rw [unitsOfBits, hdiv, hmod, if_neg (by omega), Nat.add_sub_cancel, hshift]

/-- Rounding sees the quotient alone. -/
theorem roundUnits_eq_of_mul_eq {a b c d : Nat} (hb : 0 < b) (hd : 0 < d) (h : a * d = c * b) :
    roundUnits a b = roundUnits c d :=
  Nat.le_antisymm (roundUnits_mono hb hd h.le) (roundUnits_mono hd hb h.ge)

/-- A quotient that is a significand below 2^53 times a power of two is not rounded. -/
theorem datum_roundUnits_of_exact {num den k e : Nat} (neg : Bool) (hden : 0 < den) (hk : k < 2 ^ 53) (hlow : 52 ≤ e)
    (hhigh : e ≤ 2045) (hnum : num = k * pow2 e * den) :
    datum (signed neg (roundUnits num den)) = .finite neg (k * pow2 e) := by
  obtain ⟨m, hm, hunits⟩ := exists_bits_of_significand hk hlow hhigh
  have hround : roundUnits num den = m := by
    rw [roundUnits_eq_of_mul_eq hden Nat.one_pos (c := k * pow2 e) (by rw [hnum, Nat.mul_one]), ← hunits,
      roundUnits_exact m hm]
  rw [hround, datum_signed neg m hm, hunits]

/-- Naturals below 2^53 are binary64 values (R11). -/
theorem datum_i2f {n : Nat} (hn : n < 2 ^ 53) : datum (i2f n) = .finite false (n * unitsPerOne) :=
  datum_roundUnits_of_exact (e := 1074) false Nat.one_pos hn (by decide) (by decide) (Nat.mul_one _).symm

theorem fmul_of_finite {x y : F64} {n1 n2 : Bool} {u1 u2 : Nat} (hx : datum x = .finite n1 u1)
    (hy : datum y = .finite n2 u2) : fmul x y = signed (n1 != n2) (roundUnits (u1 * u2) unitsPerOne) := by
  simp only [fmul, hx, hy]

/-- The ADC unit is exact: 3·2^-15 (R7). -/
theorem datum_adcUnit : datum adcUnit = .finite false (3 * pow2 1059) := by decide +kernel

/-- The light intensity is exact: data1·3·2^-15 (R174). -/
theorem datum_lightOf {d : Nat} (hd : d ≤ 16383) : datum (lightOf d) = .finite false (d * 3 * pow2 1059) := by
  rw [lightOf, fmul_of_finite (datum_i2f (by omega)) datum_adcUnit]
  exact datum_roundUnits_of_exact false unitsPerOne_pos (by omega) (by decide) (by decide) (by ring)

/-! ### The order of binary64 values -/

/-- A sign and a count of units as one integer. -/
def signedUnits (neg : Bool) (u : Nat) : Int := if neg then -(u : Int) else u

@[simp] theorem signedUnits_false (u : Nat) : signedUnits false u = u := rfl

@[simp] theorem signedUnits_true (u : Nat) : signedUnits true u = -(u : Int) := rfl

theorem signedUnits_true_le_false (u1 u2 : Nat) : signedUnits true u1 ≤ signedUnits false u2 := by
  rw [signedUnits_true, signedUnits_false]; omega

theorem signedUnits_false_le_true_iff {u1 u2 : Nat} :
    signedUnits false u1 ≤ signedUnits true u2 ↔ u1 = 0 ∧ u2 = 0 := by
  rw [signedUnits_true, signedUnits_false]
  omega

theorem signedUnits_natAbs (neg : Bool) (u : Nat) : (signedUnits neg u).natAbs = u := by
  cases neg <;> simp

theorem signedUnits_not (neg : Bool) (u : Nat) : signedUnits (!neg) u = -signedUnits neg u := by
  cases neg <;> simp

theorem signedUnits_add (neg : Bool) (u1 u2 : Nat) :
    signedUnits neg (u1 + u2) = signedUnits neg u1 + signedUnits neg u2 := by
  cases neg <;> simp [Int.add_comm]

theorem signedUnits_sub (neg : Bool) {u1 u2 : Nat} (h : u2 ≤ u1) :
    signedUnits neg (u1 - u2) = signedUnits neg u1 - signedUnits neg u2 := by
  rw [eq_sub_iff_add_eq, ← signedUnits_add, Nat.sub_add_cancel h]

theorem signedUnits_mul_natCast (neg : Bool) (u k : Nat) : signedUnits neg u * k = signedUnits neg (u * k) := by
  cases neg <;> simp

theorem signedUnits_mul (n1 n2 : Bool) (u1 u2 : Nat) :
    signedUnits (n1 != n2) (u1 * u2) = signedUnits n1 u1 * signedUnits n2 u2 := by
  cases n1 <;> cases n2 <;> simp

theorem f64Units_eq_some_iff {x : F64} {a : Int} :
    f64Units x = some a ↔ ∃ neg u, datum x = .finite neg u ∧ a = signedUnits neg u := by
  unfold f64Units signedUnits
  cases datum x with
  | nan | infinity neg => simp
  | finite neg u => simp [eq_comm]

/-- `x ≤ y` between finite binary64 values; false where one is a NaN or an infinity. -/
def f64Le (x y : F64) : Bool :=
  match f64Units x, f64Units y with
  | some a, some b => decide (a ≤ b)
  | _, _ => false

theorem f64Le_iff {x y : F64} : f64Le x y = true ↔ ∃ a b, f64Units x = some a ∧ f64Units y = some b ∧ a ≤ b := by
  unfold f64Le
  cases f64Units x <;> cases f64Units y <;> simp

/-- A value between two others, with the three in units. -/
theorem exists_units_of_between {x y z : F64} (hxy : f64Le x y) (hyz : f64Le y z) :
    ∃ a b c, f64Units x = some a ∧ f64Units y = some b ∧ f64Units z = some c ∧ a ≤ b ∧ b ≤ c := by
  obtain ⟨a, b, ha, hb, hab⟩ := f64Le_iff.mp hxy
  obtain ⟨b', c, hb', hc, hbc⟩ := f64Le_iff.mp hyz
  obtain rfl : b = b' := Option.some.inj (hb.symm.trans hb')
  exact ⟨a, b, c, ha, hb, hc, hab, hbc⟩

/-- A finite value above 0. -/
def f64Positive (x : F64) : Bool := (f64Units x).any fun a => decide (0 < a)

theorem f64Positive_iff {x : F64} : f64Positive x = true ↔ ∃ a, f64Units x = some a ∧ 0 < a := by
  simp [f64Positive, Option.any_eq_true]

theorem f64Units_ne_none_of_datum {x : F64} {neg : Bool} {u : Nat} (h : datum x = .finite neg u) :
    f64Units x ≠ none := by
  rw [f64Units_eq_some_iff.mpr ⟨neg, u, h, rfl⟩]
  exact Option.some_ne_none _

theorem f64Units_ne_none_of_f64Le {x y : F64} (h : f64Le x y) : f64Units x ≠ none ∧ f64Units y ≠ none := by
  obtain ⟨a, b, ha, hb, -⟩ := f64Le_iff.mp h
  exact ⟨ha ▸ Option.some_ne_none a, hb ▸ Option.some_ne_none b⟩

theorem f64Positive_of_f64Le {x y : F64} (hx : f64Positive x) (h : f64Le x y) : f64Positive y := by
  obtain ⟨a, ha, hpos⟩ := f64Positive_iff.mp hx
  obtain ⟨a', b, ha', hb, hle⟩ := f64Le_iff.mp h
  obtain rfl : a = a' := Option.some.inj (ha.symm.trans ha')
  exact f64Positive_iff.mpr ⟨b, hb, hpos.trans_le hle⟩

theorem nonpos_of_f64Le_zero {x : F64} {a : Int} (hx : f64Units x = some a) (h : f64Le x 0#64) : a ≤ 0 := by
  obtain ⟨a', zero, ha', hzero, hle⟩ := f64Le_iff.mp h
  obtain rfl : a = a' := Option.some.inj (hx.symm.trans ha')
  obtain rfl : 0 = zero := Option.some.inj hzero
  exact hle

/-! ### Every operation rounds the exact result once -/

/-- `x` is the quotient `num / den` of units, rounded; a zero may have either sign. -/
def IsRounded (x : F64) (num : Int) (den : Nat) : Prop :=
  ∃ neg u, num = signedUnits neg u ∧ x = signed neg (roundUnits u den)

theorem fmul_isRounded {x y : F64} {a b : Int} (hx : f64Units x = some a) (hy : f64Units y = some b) :
    IsRounded (fmul x y) (a * b) unitsPerOne := by
  obtain ⟨n1, u1, hdx, rfl⟩ := f64Units_eq_some_iff.mp hx
  obtain ⟨n2, u2, hdy, rfl⟩ := f64Units_eq_some_iff.mp hy
  exact ⟨n1 != n2, u1 * u2, (signedUnits_mul n1 n2 u1 u2).symm, fmul_of_finite hdx hdy⟩

theorem fdiv_isRounded {x y : F64} {a b : Int} (hx : f64Units x = some a) (hy : f64Units y = some b) (hb : 0 < b) :
    IsRounded (fdiv x y) (a * unitsPerOne) b.toNat := by
  obtain ⟨n1, u1, hdx, rfl⟩ := f64Units_eq_some_iff.mp hx
  obtain ⟨n2, u2, hdy, rfl⟩ := f64Units_eq_some_iff.mp hy
  cases n2 with
  | true => rw [signedUnits_true] at hb; omega
  | false =>
    have hu2 : u2 ≠ 0 := by rw [signedUnits_false] at hb; omega
    refine ⟨n1, u1 * unitsPerOne, signedUnits_mul_natCast n1 u1 unitsPerOne, ?_⟩
    simp only [fdiv, hdx, hdy, if_neg hu2, Bool.bne_false, signedUnits_false, Int.toNat_natCast]

theorem datum_fneg_of_finite {x : F64} {neg : Bool} {u : Nat} (h : datum x = .finite neg u) :
    datum (fneg x) = .finite (!neg) u := by
  have hmask : (0x8000000000000000#64 : F64).toNat = 2 ^ 63 := rfl
  have hexp : exponentBits (fneg x) = exponentBits x := by
    simp only [exponentBits, fneg, BitVec.toNat_xor, pow2_eq, Nat.xor_div_two_pow, Nat.xor_mod_two_pow, hmask]
    exact Nat.xor_zero _
  have hfrac : fractionBits (fneg x) = fractionBits x := by
    simp only [fractionBits, fneg, BitVec.toNat_xor, pow2_eq, Nat.xor_mod_two_pow, hmask]
    exact Nat.xor_zero _
  have hsign : signBit (fneg x) = !signBit x := by
    have hmsb (y : F64) : signBit y = y.msb := (BitVec.msb_eq_decide y).symm
    rw [hmsb, hmsb, fneg, BitVec.msb_xor]
    exact Bool.xor_true _
  unfold datum at h ⊢
  rw [hexp, hfrac, hsign]
  split at h
  case isTrue => split at h <;> cases h
  case isFalse hfinite =>
    rw [if_neg hfinite]
    split at h
    case isTrue hsubnormal => cases h; rw [if_pos hsubnormal]
    case isFalse hnormal => cases h; rw [if_neg hnormal]

/-- Zero units round to zero. -/
theorem roundUnits_zero : roundUnits 0 1 = 0 := by decide

theorem fadd_isRounded {x y : F64} {a b : Int} (hx : f64Units x = some a) (hy : f64Units y = some b) :
    IsRounded (fadd x y) (a + b) 1 := by
  obtain ⟨n1, u1, hdx, rfl⟩ := f64Units_eq_some_iff.mp hx
  obtain ⟨n2, u2, hdy, rfl⟩ := f64Units_eq_some_iff.mp hy
  have hadd : fadd x y = addFinite n1 u1 n2 u2 := by simp only [fadd, hdx, hdy]
  rw [hadd, addFinite]
  split
  case isTrue hsame =>
    subst hsame
    exact ⟨n1, u1 + u2, (signedUnits_add n1 u1 u2).symm, rfl⟩
  case isFalse hdiff =>
    obtain rfl : n2 = !n1 := Bool.eq_not.mpr (Ne.symm hdiff)
    rw [signedUnits_not, ← sub_eq_add_neg]
    split
    case isTrue hequal =>
      subst hequal
      exact ⟨false, 0, sub_self _, by rw [roundUnits_zero]⟩
    case isFalse =>
      split
      case isTrue hlt => exact ⟨n1, u1 - u2, (signedUnits_sub n1 hlt.le).symm, rfl⟩
      case isFalse hge =>
        refine ⟨!n1, u2 - u1, ?_, rfl⟩
        rw [signedUnits_not, signedUnits_sub n1 (Nat.le_of_not_lt hge), neg_sub]

theorem f64Units_fneg {x : F64} {a : Int} (h : f64Units x = some a) : f64Units (fneg x) = some (-a) := by
  obtain ⟨neg, u, hx, rfl⟩ := f64Units_eq_some_iff.mp h
  refine f64Units_eq_some_iff.mpr ⟨!neg, u, datum_fneg_of_finite hx, ?_⟩
  exact (signedUnits_not neg u).symm

theorem fsub_isRounded {x y : F64} {a b : Int} (hx : f64Units x = some a) (hy : f64Units y = some b) :
    IsRounded (fsub x y) (a - b) 1 :=
  fadd_isRounded hx (f64Units_fneg hy)

/-! ### Rounding keeps the order -/

/-- Of finite magnitude bits the larger stand for the larger magnitude: rounding gives the bits back. -/
theorem unitsOfBits_mono {m n : Nat} (h : m ≤ n) (hn : n < infinityBits) : unitsOfBits m ≤ unitsOfBits n := by
  by_contra hlt
  have hround := roundUnits_mono Nat.one_pos Nat.one_pos (Nat.mul_le_mul_right 1 (Nat.le_of_not_le hlt))
  rw [roundUnits_exact n hn, roundUnits_exact m (Nat.lt_of_le_of_lt h hn)] at hround
  exact hlt (Nat.le_antisymm h hround ▸ Nat.le_refl _)

/-- The order of finite values is the order of their signs and magnitude bits. -/
theorem signedUnits_unitsOfBits_mono {n1 n2 : Bool} {m1 m2 : Nat} (h1 : m1 < infinityBits) (h2 : m2 < infinityBits)
    (h : signedUnits n1 m1 ≤ signedUnits n2 m2) :
    signedUnits n1 (unitsOfBits m1) ≤ signedUnits n2 (unitsOfBits m2) := by
  match n1, n2 with
  | false, false =>
    rw [signedUnits_false, signedUnits_false, Int.ofNat_le] at h ⊢
    exact unitsOfBits_mono h h2
  | true, true =>
    rw [signedUnits_true, signedUnits_true, Int.neg_le_neg_iff, Int.ofNat_le] at h ⊢
    exact unitsOfBits_mono h h1
  | true, false => exact signedUnits_true_le_false _ _
  | false, true =>
    obtain ⟨rfl, rfl⟩ := signedUnits_false_le_true_iff.mp h
    decide

theorem roundUnits_zero_left {den : Nat} (hden : 0 < den) : roundUnits 0 den = 0 :=
  (roundUnits_eq_of_mul_eq hden Nat.one_pos (by simp)).trans roundUnits_zero

/-- Rounding keeps the order of signed quotients. -/
theorem signedUnits_roundUnits_mono {n1 n2 : Bool} {u1 u2 b d : Nat} (hb : 0 < b) (hd : 0 < d)
    (h : signedUnits n1 u1 * d ≤ signedUnits n2 u2 * b) :
    signedUnits n1 (roundUnits u1 b) ≤ signedUnits n2 (roundUnits u2 d) := by
  rw [signedUnits_mul_natCast, signedUnits_mul_natCast] at h
  match n1, n2 with
  | false, false =>
    rw [signedUnits_false, signedUnits_false, Int.ofNat_le] at h ⊢
    exact roundUnits_mono hb hd h
  | true, true =>
    rw [signedUnits_true, signedUnits_true, Int.neg_le_neg_iff, Int.ofNat_le] at h ⊢
    exact roundUnits_mono hd hb h
  | true, false => exact signedUnits_true_le_false _ _
  | false, true =>
    obtain ⟨h1, h2⟩ := signedUnits_false_le_true_iff.mp h
    obtain rfl := (Nat.mul_eq_zero.mp h1).resolve_right hd.ne'
    obtain rfl := (Nat.mul_eq_zero.mp h2).resolve_right hb.ne'
    rw [roundUnits_zero_left hb, roundUnits_zero_left hd]
    decide

theorem roundUnits_le_infinityBits (num den : Nat) : roundUnits num den ≤ infinityBits := Nat.min_le_right _ _

/-- The value of a rounded quotient, where it is not rounded to an infinity. -/
theorem f64Units_signed_of_finite (neg : Bool) {m : Nat} (h : m < infinityBits) :
    f64Units (signed neg m) = some (signedUnits neg (unitsOfBits m)) :=
  f64Units_eq_some_iff.mpr ⟨neg, _, datum_signed neg m h, rfl⟩

theorem f64Units_signed_infinityBits (neg : Bool) : f64Units (signed neg infinityBits) = none := by
  cases neg <;> decide

theorem f64Units_signed_isSome_iff (neg : Bool) {m : Nat} (h : m ≤ infinityBits) :
    (f64Units (signed neg m)).isSome ↔ m < infinityBits := by
  obtain hlt | rfl := Nat.lt_or_eq_of_le h
  · simp [f64Units_signed_of_finite neg hlt, hlt]
  · simp [f64Units_signed_infinityBits]

/-- Two quotients in order have their values in order. -/
theorem IsRounded.le {x y : F64} {a c : Int} {b d : Nat} (hx : IsRounded x a b) (hy : IsRounded y c d) (hb : 0 < b)
    (hd : 0 < d) (h : a * d ≤ c * b) (hfx : (f64Units x).isSome) (hfy : (f64Units y).isSome) : f64Le x y := by
  obtain ⟨n1, u1, rfl, rfl⟩ := hx
  obtain ⟨n2, u2, rfl, rfl⟩ := hy
  rw [f64Units_signed_isSome_iff _ (roundUnits_le_infinityBits _ _)] at hfx hfy
  exact f64Le_iff.mpr ⟨_, _, f64Units_signed_of_finite n1 hfx, f64Units_signed_of_finite n2 hfy,
    signedUnits_unitsOfBits_mono hfx hfy (signedUnits_roundUnits_mono hb hd h)⟩

/-- A quotient between two whose values are finite has a finite value. -/
theorem IsRounded.isSome_of_between {x y z : F64} {a c e : Int} {b d f : Nat} (hx : IsRounded x a b)
    (hy : IsRounded y c d) (hz : IsRounded z e f) (hb : 0 < b) (hd : 0 < d) (hf : 0 < f) (hxy : a * d ≤ c * b)
    (hyz : c * f ≤ e * d) (hfx : (f64Units x).isSome) (hfz : (f64Units z).isSome) : (f64Units y).isSome := by
  obtain ⟨n1, u1, rfl, rfl⟩ := hx
  obtain ⟨n2, u2, rfl, rfl⟩ := hy
  obtain ⟨n3, u3, rfl, rfl⟩ := hz
  rw [f64Units_signed_isSome_iff _ (roundUnits_le_infinityBits _ _)] at hfx hfz ⊢
  have hlow := signedUnits_roundUnits_mono hb hd hxy
  have hhigh := signedUnits_roundUnits_mono hd hf hyz
  have hmiddle := signedUnits_natAbs n2 (roundUnits u2 d)
  have hleft := signedUnits_natAbs n1 (roundUnits u1 b)
  have hright := signedUnits_natAbs n3 (roundUnits u3 f)
  omega

/-- A quotient between two whose values are finite has its value between theirs. -/
theorem IsRounded.between {x y z : F64} {a c e : Int} {b d f : Nat} (hx : IsRounded x a b) (hy : IsRounded y c d)
    (hz : IsRounded z e f) (hb : 0 < b) (hd : 0 < d) (hf : 0 < f) (hxy : a * d ≤ c * b) (hyz : c * f ≤ e * d)
    (hfx : (f64Units x).isSome) (hfz : (f64Units z).isSome) : f64Le x y ∧ f64Le y z := by
  have hfy := hx.isSome_of_between hy hz hb hd hf hxy hyz hfx hfz
  exact ⟨hx.le hy hb hd hxy hfx hfy, hy.le hz hd hf hyz hfy hfz⟩

/-! ### Operations with one operand fixed keep the order -/

/-- On finite values `f` keeps the order as long as its own values at the ends are finite. -/
def KeepsOrder (f : F64 → F64) : Prop :=
  ∀ x y z, f64Le x y → f64Le y z → (f64Units (f x)).isSome → (f64Units (f z)).isSome →
    f64Le (f x) (f y) ∧ f64Le (f y) (f z)

/-- An operation that rounds a growing function of its operand keeps the order. -/
theorem keepsOrder_of_isRounded {f : F64 → F64} {num : Int → Int} {den : Nat} (hden : 0 < den)
    (hnum : Monotone num) (hf : ∀ x a, f64Units x = some a → IsRounded (f x) (num a) den) : KeepsOrder f := by
  intro x y z hxy hyz hfx hfz
  obtain ⟨a, b, c, ha, hb, hc, hab, hbc⟩ := exists_units_of_between hxy hyz
  have hden' : (0 : Int) ≤ den := Int.natCast_nonneg den
  exact (hf x a ha).between (hf y b hb) (hf z c hc) hden hden hden
    (Int.mul_le_mul_of_nonneg_right (hnum hab) hden') (Int.mul_le_mul_of_nonneg_right (hnum hbc) hden') hfx hfz

theorem fmul_left_keepsOrder {c : F64} (hc : f64Positive c) : KeepsOrder fun x => fmul c x := by
  obtain ⟨b, hb, hpos⟩ := f64Positive_iff.mp hc
  exact keepsOrder_of_isRounded unitsPerOne_pos (fun _ _ h => Int.mul_le_mul_of_nonneg_left h hpos.le)
    fun _ _ ha => fmul_isRounded hb ha

theorem fmul_right_keepsOrder {c : F64} (hc : f64Positive c) : KeepsOrder fun x => fmul x c := by
  obtain ⟨b, hb, hpos⟩ := f64Positive_iff.mp hc
  exact keepsOrder_of_isRounded unitsPerOne_pos (fun _ _ h => Int.mul_le_mul_of_nonneg_right h hpos.le)
    fun _ _ ha => fmul_isRounded ha hb

theorem fdiv_right_keepsOrder {c : F64} (hc : f64Positive c) : KeepsOrder fun x => fdiv x c := by
  obtain ⟨b, hb, hpos⟩ := f64Positive_iff.mp hc
  exact keepsOrder_of_isRounded (Int.lt_toNat.mpr hpos)
    (fun _ _ h => Int.mul_le_mul_of_nonneg_right h (Int.natCast_nonneg unitsPerOne))
    fun _ _ ha => fdiv_isRounded ha hb hpos

theorem fsub_right_keepsOrder {c : F64} (hc : (f64Units c).isSome) : KeepsOrder fun x => fsub x c := by
  obtain ⟨b, hb⟩ := Option.isSome_iff_exists.mp hc
  exact keepsOrder_of_isRounded Nat.one_pos (fun _ _ h => Int.sub_le_sub_right h b) fun _ _ ha => fsub_isRounded ha hb

/-- Subtracting from a fixed value turns the order round. -/
theorem fsub_left_between {c x y z : F64} (hc : (f64Units c).isSome) (hxy : f64Le x y) (hyz : f64Le y z)
    (hfx : (f64Units (fsub c x)).isSome) (hfz : (f64Units (fsub c z)).isSome) :
    f64Le (fsub c z) (fsub c y) ∧ f64Le (fsub c y) (fsub c x) := by
  obtain ⟨k, hk⟩ := Option.isSome_iff_exists.mp hc
  obtain ⟨a, b, e, ha, hb, he, hab, hbe⟩ := exists_units_of_between hxy hyz
  exact (fsub_isRounded hk he).between (fsub_isRounded hk hb) (fsub_isRounded hk ha) Nat.one_pos Nat.one_pos Nat.one_pos
    (by omega) (by omega) hfz hfx

/-- A quotient of a numerator between `x ≤ 0` and `z > 0` by a divisor that is at least the positive `d`: the bounds are
the ends divided by `d`. -/
theorem fdiv_between {x y z d e : F64} (hxy : f64Le x y) (hyz : f64Le y z) (hx : f64Le x 0#64) (hz : f64Positive z)
    (hd : f64Positive d) (hde : f64Le d e) (hfx : (f64Units (fdiv x d)).isSome) (hfz : (f64Units (fdiv z d)).isSome) :
    f64Le (fdiv x d) (fdiv y e) ∧ f64Le (fdiv y e) (fdiv z d) := by
  obtain ⟨a, b, c, ha, hb, hc, hab, hbc⟩ := exists_units_of_between hxy hyz
  have hneg := nonpos_of_f64Le_zero ha hx
  obtain ⟨c', hc', hpos⟩ := f64Positive_iff.mp hz
  obtain rfl : c = c' := Option.some.inj (hc.symm.trans hc')
  obtain ⟨p, hp, hp0⟩ := f64Positive_iff.mp hd
  obtain ⟨p', q, hp', hq, hpq⟩ := f64Le_iff.mp hde
  obtain rfl : p = p' := Option.some.inj (hp.symm.trans hp')
  have hq0 : 0 < q := hp0.trans_le hpq
  have hunit : (0 : Int) ≤ unitsPerOne := Int.natCast_nonneg _
  refine (fdiv_isRounded ha hp hp0).between (fdiv_isRounded hb hq hq0) (fdiv_isRounded hc hp hp0)
    (Int.lt_toNat.mpr hp0) (Int.lt_toNat.mpr hq0) (Int.lt_toNat.mpr hp0) ?_ ?_ hfx hfz
  · rw [Int.toNat_of_nonneg hp0.le, Int.toNat_of_nonneg hq0.le]
    calc a * unitsPerOne * q ≤ a * unitsPerOne * p :=
          Int.mul_le_mul_of_nonpos_left (Int.mul_nonpos_of_nonpos_of_nonneg hneg hunit) hpq
      _ ≤ b * unitsPerOne * p :=
          Int.mul_le_mul_of_nonneg_right (Int.mul_le_mul_of_nonneg_right hab hunit) hp0.le
  · rw [Int.toNat_of_nonneg hp0.le, Int.toNat_of_nonneg hq0.le]
    calc b * unitsPerOne * p ≤ c * unitsPerOne * p :=
          Int.mul_le_mul_of_nonneg_right (Int.mul_le_mul_of_nonneg_right hbc hunit) hp0.le
      _ ≤ c * unitsPerOne * q :=
          Int.mul_le_mul_of_nonneg_left hpq (Int.mul_nonneg hpos.le hunit)

/-! ### Growing sequences of values -/

/-- The values `g 0` to `g N` are finite and do not decrease. -/
def MonotoneUpTo (N : Nat) (g : Nat → F64) : Prop := ∀ m n, m ≤ n → n ≤ N → f64Le (g m) (g n)

theorem MonotoneUpTo.map {N : Nat} {g : Nat → F64} {f : F64 → F64} (hg : MonotoneUpTo N g) (hf : KeepsOrder f)
    (hfirst : (f64Units (f (g 0))).isSome) (hlast : (f64Units (f (g N))).isSome) : MonotoneUpTo N fun n => f (g n) := by
  intro m n hmn hnN
  have hm := hf _ _ _ (hg 0 m (Nat.zero_le m) (hmn.trans hnN)) (hg m N (hmn.trans hnN) le_rfl) hfirst hlast
  obtain ⟨a, b, -, -, hb, -⟩ := exists_units_of_between hm.1 hm.2
  exact (hf _ _ _ (hg m n hmn hnN) (hg n N hnN le_rfl) (Option.isSome_iff_exists.mpr ⟨b, hb⟩) hlast).1

theorem f64Units_i2f {n : Nat} (hn : n < 2 ^ 53) : f64Units (i2f n) = some ((n * unitsPerOne : Nat) : Int) :=
  f64Units_eq_some_iff.mpr ⟨false, _, datum_i2f hn, (signedUnits_false _).symm⟩

/-- The words data4 and data5, as binary64 values. -/
theorem i2f_monotoneUpTo : MonotoneUpTo 16383 fun n => i2f (4 * n) := by
  intro m n hmn hnN
  refine f64Le_iff.mpr ⟨_, _, f64Units_i2f (by omega), f64Units_i2f (by omega), Int.ofNat_le.mpr ?_⟩
  exact Nat.mul_le_mul_right _ (Nat.mul_le_mul_left 4 hmn)

/-- The temperature does not decrease, step by step of its formula (R172, R174). -/
theorem tempOf_monotoneUpTo : MonotoneUpTo 16383 fun n => tempOf (4 * n) := by
  have hvolts := i2f_monotoneUpTo.map (fmul_left_keepsOrder (c := adcUnit) (by decide +kernel))
    (by decide +kernel) (by decide +kernel)
  have hthird := hvolts.map (fdiv_right_keepsOrder (c := lit 3 1) (by decide +kernel))
    (by decide +kernel) (by decide +kernel)
  have hscaled := hthird.map (fmul_right_keepsOrder (c := lit 27 10) (by decide +kernel))
    (by decide +kernel) (by decide +kernel)
  have hhalf := hscaled.map (fdiv_right_keepsOrder (c := lit 2 1) (by decide +kernel))
    (by decide +kernel) (by decide +kernel)
  have hoffset := hhalf.map (fsub_right_keepsOrder (c := lit 5 10) (by decide +kernel))
    (by decide +kernel) (by decide +kernel)
  simpa only [tempOf] using hoffset.map (fdiv_right_keepsOrder (c := lit 1 100) (by decide +kernel))
    (by decide +kernel) (by decide +kernel)

/-- The humidity numerator does not decrease, step by step of its formula (R172). -/
theorem humNumerator_monotoneUpTo : MonotoneUpTo 16383 fun n => humNumerator (4 * n) := by
  have hvolts := i2f_monotoneUpTo.map (fmul_right_keepsOrder (c := adcUnit) (by decide +kernel))
    (by decide +kernel) (by decide +kernel)
  have hscaled := hvolts.map (fmul_right_keepsOrder (c := lit 27 10) (by decide +kernel))
    (by decide +kernel) (by decide +kernel)
  have hninth := hscaled.map (fdiv_right_keepsOrder (c := i2f 9) (by decide +kernel))
    (by decide +kernel) (by decide +kernel)
  have hoffset := hninth.map (fsub_right_keepsOrder (c := lit 1515 10000) (by decide +kernel))
    (by decide +kernel) (by decide +kernel)
  simpa only [humNumerator] using hoffset.map (fdiv_right_keepsOrder (c := lit 636 100000) (by decide +kernel))
    (by decide +kernel) (by decide +kernel)

/-! ### The ranges of R174 -/

/-- The humidity divisor falls as the temperature grows: it is least at the highest temperature. -/
theorem humDivisor_between {m : Nat} (hm : m ≤ 16383) :
    f64Le 0x3FE28ABC84B5DCC6#64 (humDivisor (tempOf (4 * m))) ∧
      f64Le (humDivisor (tempOf (4 * m))) 0x3FF29A027525460B#64 := by
  have hscaled := tempOf_monotoneUpTo.map (fmul_left_keepsOrder (c := lit 216 100000) (by decide +kernel))
    (by decide +kernel) (by decide +kernel)
  have hleast : humDivisor (tempOf (4 * 16383)) = 0x3FE28ABC84B5DCC6#64 := by decide +kernel
  have hmost : humDivisor (tempOf (4 * 0)) = 0x3FF29A027525460B#64 := by decide +kernel
  rw [← hleast, ← hmost]
  exact fsub_left_between (by decide +kernel) (hscaled 0 m (Nat.zero_le m) hm) (hscaled m 16383 hm le_rfl)
    (by decide +kernel) (by decide +kernel)

/-- The humidity is furthest from 0 at the ends of its numerator and the least divisor. -/
theorem humOf_between {m n : Nat} (hm : m ≤ 16383) (hn : n ≤ 16383) :
    f64Le 0xC0448E1D6144A725#64 (humOf (4 * n) (tempOf (4 * m))) ∧
      f64Le (humOf (4 * n) (tempOf (4 * m))) 0x407BF4C7D4E27CC4#64 := by
  have hleast : fdiv (humNumerator (4 * 0)) 0x3FE28ABC84B5DCC6#64 = 0xC0448E1D6144A725#64 := by decide +kernel
  have hmost : fdiv (humNumerator (4 * 16383)) 0x3FE28ABC84B5DCC6#64 = 0x407BF4C7D4E27CC4#64 := by decide +kernel
  rw [← hleast, ← hmost]
  exact fdiv_between (humNumerator_monotoneUpTo 0 n (Nat.zero_le n) hn) (humNumerator_monotoneUpTo n 16383 hn le_rfl)
    (by decide +kernel) (by decide +kernel) (by decide +kernel) (humDivisor_between hm).1 (by decide +kernel)
    (by decide +kernel)

/-- The temperature is above -50.0 as soon as data4 is not 0. -/
theorem tempOf_eq_lowest_iff {m : Nat} (hm : m ≤ 16383) : tempOf (4 * m) = 0xC049000000000000#64 ↔ m = 0 := by
  have hlowest : tempOf (4 * 0) = 0xC049000000000000#64 := by decide +kernel
  constructor
  · intro heq
    by_contra hne
    have hnext : f64Le (tempOf (4 * 1)) (tempOf (4 * m)) :=
      tempOf_monotoneUpTo 1 m (Nat.one_le_iff_ne_zero.mpr hne) hm
    have habove : f64Le (tempOf (4 * 1)) 0xC049000000000000#64 = false := by decide +kernel
    rw [heq, habove] at hnext
    cases hnext
  · rintro rfl
    exact hlowest

end Sys2Proof.Machine

namespace Sys2Proof.Proofs

open Sys2Proof Sys2Proof.Machine

/-- Settles O43: the invariant holds CAP filled, and each case of R173 is a case of the analog result. -/
theorem analogPresence : Obligations.AnalogPresence := by
  intro s h hwaiting
  obtain ⟨cs, hcap⟩ := (ByteSpace.filled_iff s.cap).mp h.capFilled
  obtain ⟨t, ht, hresult⟩ := h.execWaitDone_analog hwaiting hcap
  have hlen : s.cap.len = cs.length := by rw [hcap, ByteSpace.ofBytes_len]
  refine ⟨t, ht, fun hnone => ?_, fun hsync hshort => ?_, fun hsync hlong => ?_⟩
  · rw [hnone, analogResult_of_no_marker] at hresult
    exact ⟨congrArg Prod.fst hresult, congrArg Prod.snd hresult⟩
  · rw [analogResult_of_short hsync (hlen ▸ hshort)] at hresult
    exact ⟨congrArg Prod.fst hresult, congrArg Prod.snd hresult⟩
  · obtain ⟨hcode, hanalog⟩ := Prod.mk.inj (hresult.trans (analogResult_of_captured hsync (hlen ▸ hlong)))
    exact ⟨hcode, hanalog ▸ Option.some_ne_none _⟩

/-- Settles O44: the reading is `scaleWords` of the captured words, whose formulas are those of R171 and R172. -/
theorem analogReadingFormulas : Obligations.AnalogReadingFormulas := by
  intro s bs h hwaiting hsync hcap hlen
  obtain ⟨t, ht, hcode, hanalog⟩ := h.execWaitDone_reading hwaiting hsync hcap hlen
  exact ⟨t, _, ht, hcode, hanalog, rfl, rfl, rfl, rfl, rfl, rfl, rfl, rfl⟩

/-- Settles O45: the analog result is a function of the marker count and the captured bytes. -/
theorem analogIndependentOfRecord : Obligations.AnalogIndependentOfRecord := by
  intro s s' h h' hwaiting hwaiting' hcap hsync
  obtain ⟨cs, hcs⟩ := (ByteSpace.filled_iff s.cap).mp h.capFilled
  obtain ⟨t, ht, hresult⟩ := h.execWaitDone_analog hwaiting hcs
  obtain ⟨t', ht', hresult'⟩ := h'.execWaitDone_analog hwaiting' (hcap ▸ hcs)
  obtain ⟨hcode, hanalog⟩ := Prod.mk.inj (hresult.trans (hsync ▸ hresult'.symm))
  exact ⟨t, t', ht, ht', hcode, hanalog⟩

/-- Settles O46: of the captured bytes the analog result takes their number and the words, and the words take the low
seven bits of eight bytes. -/
theorem analogReadsSevenBitsOfEightBytes : Obligations.AnalogReadsSevenBitsOfEightBytes := by
  intro s s' bs bs' h h' hwaiting hwaiting' hsync hcap hcap' hlen hbits
  obtain ⟨t, ht, hresult⟩ := h.execWaitDone_analog hwaiting hcap
  obtain ⟨t', ht', hresult'⟩ := h'.execWaitDone_analog hwaiting' hcap'
  have hwords := capturedWords_congr fun k hk => congrArg BitVec.toNat (hbits k hk)
  have hsame : analogResult s.syncCount bs = analogResult s'.syncCount bs' := by
    rw [analogResult, analogResult, hsync, hlen, hwords]
  obtain ⟨hcode, hanalog⟩ := Prod.mk.inj (hresult.trans (hsame.trans hresult'.symm))
  exact ⟨t, t', ht, ht', hcode, hanalog⟩

/-- Settles O48: three times data1 and the sum times 128 are significands below 2^53. -/
theorem lightAndLelAreExact : Obligations.LightAndLelAreExact := by
  refine ⟨fun d hd => ⟨d * 3 * pow2 1059, datum_lightOf hd, ?_⟩, fun k hk => ?_⟩
  · rw [← pow2_eq 1074, Nat.mul_assoc, ← pow2_eq 15, pow2_mul_pow2]
  · rw [← pow2_eq 1074]
    exact datum_i2f (by omega)

/-- Settles O49: each operation of the formula keeps the order, and -50.0 is below the value at data4 = 4. -/
theorem temperatureIsMonotone : Obligations.TemperatureIsMonotone :=
  ⟨fun m n hmn hn => f64Le_iff.mp (tempOf_monotoneUpTo m n hmn hn), fun _ hm => tempOf_eq_lowest_iff hm,
    by decide +kernel⟩

/-- Settles O50: the two ranges, with their bounds in units. -/
theorem humidityIsInRange : Obligations.HumidityIsInRange := by
  intro m n hm hn
  obtain ⟨hdMin, hdMax⟩ := humDivisor_between hm
  obtain ⟨hhMin, hhMax⟩ := humOf_between hm hn
  obtain ⟨dMin, d, dMax, edMin, ed, edMax, hd1, hd2⟩ := exists_units_of_between hdMin hdMax
  obtain ⟨hMin, h, hMax, ehMin, eh, ehMax, hh1, hh2⟩ := exists_units_of_between hhMin hhMax
  exact ⟨d, dMin, dMax, h, hMin, hMax, ed, edMin, edMax, hd1, hd2, eh, ehMin, ehMax, hh1, hh2⟩

/-- Settles O51: the words of any eight bytes lie in the ranges for which the values are exact or between bounds. -/
theorem analogResultsAreFinite : Obligations.AnalogResultsAreFinite := by
  intro c2 c3 c8 c9 c10 c11 c32 c33
  have hsum := sum7_le c32 c33
  have hlel := datum_i2f (n := 128 * sum7 c32 c33) (by omega)
  have htemp := tempOf_monotoneUpTo _ _ le_rfl (pair7_le c8 c9)
  obtain ⟨hdivisor, -⟩ := humDivisor_between (pair7_le c8 c9)
  obtain ⟨hhum, -⟩ := humOf_between (pair7_le c8 c9) (pair7_le c10 c11)
  have hleast : f64Positive 0x3FE28ABC84B5DCC6#64 := by decide +kernel
  exact ⟨f64Units_ne_none_of_datum (datum_lightOf (pair7_le c2 c3)), (f64Units_ne_none_of_f64Le htemp).1,
    (f64Units_ne_none_of_f64Le hhum).2, f64Units_ne_none_of_datum hlel,
    f64Positive_iff.mp (f64Positive_of_f64Le hleast hdivisor)⟩

/-- Settles O52: every byte the reading takes is 0x00, so all four words are 0. -/
theorem allZeroCaptureReading : Obligations.AllZeroCaptureReading := by
  intro s n h hwaiting hsync hn hcap
  obtain ⟨t, ht, -, hanalog⟩ := h.execWaitDone_reading hwaiting hsync hcap (by simp; omega)
  rw [capturedWords_zero] at hanalog
  have hlight : lightOf 0 = 0#64 := by decide +kernel
  have htemp : tempOf 0 = 0xC049000000000000#64 := by decide +kernel
  have hlel : i2f 0 = 0#64 := by decide +kernel
  refine ⟨t, _, ht, hanalog, ?_⟩
  simp only [scaleWords, hlight, htemp, hlel, and_self]

end Sys2Proof.Proofs

/-! PROOFS. The exceptions family (60_exceptions.md): the events a phase refuses, the mark they set, the codes DECODE
writes, and the end of every invocation. -/

namespace Sys2Proof.Machine

/-! ### Admission and the mark -/

/-- The mark after an event is the old one, or whether the phase does not admit the event (R39, R198, R199). -/
theorem exec_refused_eq {i : Instr} {s t : State} (hexec : exec i s = .next t) :
    t.refused = (s.refused || !admitted i s.phase) := by
  cases exec_effect hexec with
  | refused hphase => simp [hphase]
  | command c hidle => simp [admitted_commandEvent, hidle]
  | byte b hphase => simp [receive_eq, admitted, hphase]
  | readError hphase => simp [admitted, hphase]
  | waitDone hwaiting hrecord hanalog =>
    obtain ⟨_, _, _, _, rfl⟩ := decodeRecord_frame hrecord
    obtain ⟨_, _, rfl⟩ := deriveAnalog_frame hanalog
    simp [admitted, hwaiting]
  | reset => simp [admitted]

theorem exec_rxErr_of_not_fatal {s : State} (h : s.phase ≠ .fatal) :
    exec .rxErr s = .next (s.takeError .transportReadError) :=
  if_neg h

/-! ### No part of DECODE answers with ChecksumMismatch

These hold of every state, with no invariant: whatever path DECODE takes, the code it leaves is one of R141 to R149. -/

theorem decodeConfig_resCode_ne_checksumMismatch {s u : State} (h : decodeConfig s = .ok u) :
    u.resCode ≠ .checksumMismatch := by
  unfold decodeConfig at h
  split at h
  case isTrue => cases h; simp
  case isFalse =>
    split at h
    case h_1 => cases h; simp
    case h_2 => cases h

theorem unpackLive_resCode {s u : State} {checkTrailer : Bool} (h : unpackLive checkTrailer s = .ok u) :
    u.resCode = .liveRecord := by
  unfold unpackLive at h
  split at h
  case h_1 => cases h
  case h_2 =>
    split at h
    case isTrue =>
      split at h
      case h_1 => cases h; rfl
      case h_2 => cases h
    case isFalse => cases h; rfl

theorem decodeLive_resCode_ne_checksumMismatch {s u : State} {checkTrailer : Bool}
    (h : decodeLive checkTrailer s = .ok u) : u.resCode ≠ .checksumMismatch := by
  unfold decodeLive at h
  split at h
  case isTrue => cases h; simp
  case isFalse =>
    split at h
    case h_1 => cases h
    case h_2 =>
      split at h
      case isTrue => cases h; simp
      case isFalse =>
        split at h
        case isTrue => cases h; simp
        case isFalse => simp [unpackLive_resCode h]

theorem decodePath_resCode_ne_checksumMismatch {c : Option Cmd} {s u : State} (h : decodePath c s = .ok u) :
    u.resCode ≠ .checksumMismatch := by
  match c with
  | none => cases h
  | some .cfg => exact decodeConfig_resCode_ne_checksumMismatch h
  | some .live | some .lives => exact decodeLive_resCode_ne_checksumMismatch h

theorem decodeRecord_resCode_ne_checksumMismatch {s u : State} (h : decodeRecord s = .ok u) :
    u.resCode ≠ .checksumMismatch := by
  unfold decodeRecord at h
  split at h
  case isTrue => cases h; simp
  case isFalse =>
    split at h
    case h_1 => cases h
    case h_2 => cases h; simp
    case h_3 => exact decodePath_resCode_ne_checksumMismatch h

/-- An event that completes with ChecksumMismatch found it there (R204). -/
theorem exec_checksumMismatch_of_next {i : Instr} {s t : State} (hexec : exec i s = .next t)
    (hcode : t.resCode = .checksumMismatch) : s.resCode = .checksumMismatch := by
  cases exec_effect hexec with
  | refused | command => exact hcode
  | byte b => simpa [receive_eq] using hcode
  | readError | reset => simp at hcode
  | waitDone _ hrecord hanalog =>
    have hother := decodeRecord_resCode_ne_checksumMismatch hrecord
    obtain ⟨_, _, rfl⟩ := deriveAnalog_frame hanalog
    exact absurd hcode hother

/-! ### The end of an invocation -/

/-- In WAITING both WAIT_DONE and RX_ERR complete with `done` set (R40, R200). -/
theorem State.Inv.exec_sets_done {s : State} (h : s.Inv) (hwaiting : s.phase = .waiting) {i : Instr}
    (hi : i = .waitDone ∨ i = .rxErr) : ∃ t, exec i s = .next t ∧ t.doneFlag = true := by
  obtain rfl | rfl := hi
  · obtain ⟨t, ht⟩ := h.exec_completes .waitDone
    obtain ⟨_, _, _, _, _, _, rfl⟩ := execWaitDone_frame ht hwaiting
    exact ⟨_, ht, rfl⟩
  · exact ⟨_, exec_rxErr_of_not_fatal (by simp [hwaiting]), rfl⟩

end Sys2Proof.Machine

namespace Sys2Proof.Proofs

open Sys2Proof Sys2Proof.Machine

/-- Settles O22: the listed events are ones their phase does not admit, and such an event changes the mark alone. -/
theorem refusedEventsChangeNothing : Obligations.RefusedEventsChangeNothing := by
  refine ⟨fun i s hcase => exec_of_not_admitted ?_, fun s w ws why hp hq hd => step_of_decode_reserved hp hq hd⟩
  obtain ⟨⟨c, rfl⟩, hbusy⟩ | ⟨rfl, hphase⟩ | ⟨⟨b, rfl⟩ | rfl, hfatal⟩ := hcase
  · simpa [admitted_commandEvent] using hbusy
  · simpa [admitted] using hphase
  · simp [admitted, hfatal]
  · simp [admitted, hfatal]

/-- Settles O23: the invariant rules out every fault, and each effect sets the mark as its phase admits the event. -/
theorem admissionDependsOnPhaseAlone : Obligations.AdmissionDependsOnPhaseAlone := by
  intro i s h
  obtain ⟨t, ht⟩ := h.exec_completes i
  exact ⟨t, ht, exec_refused_eq ht⟩

/-- Settles O27: WAIT_DONE alone writes a code that depends on the bytes, and no path of DECODE writes this one. -/
theorem checksumMismatchNeverWritten : Obligations.ChecksumMismatchNeverWritten :=
  ⟨rfl, fun _ _ _ hexec hcode => exec_checksumMismatch_of_next hexec hcode⟩

/-- Settles O58: the bytes leave the block in WAITING with its invariant, where either event sets `done`. -/
theorem everyInvocationEnds : Obligations.EveryInvocationEnds := by
  intro s bs i h hwaiting hi
  have hwait : (receiveAll bs s).phase = .waiting := (receiveAll_phase bs s).trans hwaiting
  obtain ⟨t, ht, hdone⟩ := (h.receiveAll bs).exec_sets_done hwait hi
  refine ⟨t, ?_, hdone⟩
  rw [execAll_rxBytes_append bs _ (by simp [hwaiting])]
  simp only [execAll, ht]

/-- Settles O24: the read error has its effect outside FATAL, and FATAL admits RESET alone. -/
theorem fatalRefusesAllButReset : Obligations.FatalRefusesAllButReset := by
  refine ⟨fun s hphase => ⟨_, exec_rxErr_of_not_fatal hphase, rfl⟩, fun i s hfatal hi => ?_, fun s => ⟨_, rfl, rfl⟩⟩
  exact exec_of_not_admitted (by rw [hfatal, admitted_fatal hi])

/-- Settles O54: each number as `ResCode.code` and `AnCode.code` define it. -/
theorem resultCodeNumbers : Obligations.ResultCodeNumbers := by
  unfold Obligations.ResultCodeNumbers
  decide

end Sys2Proof.Proofs
